-- ==== Sys2Proof/Word.lean ====
section
/-! DEFINITION. The quantities of the Dobrega 9624 (spec/00_scope.md 3.1): bytes of the lines, positions, trims and the
numbers of channels, groups, strips, links and slots. -/

namespace Sys2Proof

/-- One byte of the control link or of a gain link (R184). -/
abbrev Byte := BitVec 8

/-- A position: a whole number of steps from 0 to 1023 (R21). -/
abbrev Position := Fin 1024

/-- A trim of the Trim Memory: a whole number of steps from -255 to +255 (R47). -/
abbrev Trim := { t : Int // -255 ≤ t ∧ t ≤ 255 }

/-- A channel number, 0 to 95. -/
abbrev ChanNo := Fin 96
/-- A group number, 0 to 15. -/
abbrev GroupNo := Fin 16
/-- A strip number, 0 to 23. -/
abbrev StripNo := Fin 24
/-- A bank number, 0 to 3. -/
abbrev BankNo := Fin 4
/-- A gain link number, 0 to 3. -/
abbrev LinkNo := Fin 4
/-- A slot of a gain link, 0 to 63. -/
abbrev Slot := Fin 64

/-- The trim of no steps. -/
def Trim.zero : Trim := ⟨0, by decide⟩

/-- A gain: OFF, or a number of tenths of a decibel (spec/00_scope.md 3.1). OFF is a value of its own. -/
inductive Gain where
  | off
  | tenths (t : Int)
deriving DecidableEq, Repr

end Sys2Proof
end

