-- ==== Sys2Proof/Config.lean ====
section
/-! DEFINITION. What the manual fixes for every Dobrega 9624: capacities, ranges, times and the request codes. The manual
leaves no result of any command open, so there is no free value here. -/

namespace Sys2Proof.Config

/-- Highest cue number (spec/00_scope.md 3.1). -/
def maxCue : Nat := 99999
/-- Longest time of a move, a delay, a follow or the back time, in ms (R70, R91, R108). -/
def maxTime : Nat := 600000
/-- Highest show time in ms (R129). -/
def maxShowTime : Nat := 4294967295
/-- Entries of the active move table (R70). -/
def maxMoves : Nat := 128
/-- Cues of the cue list (R94). -/
def maxCues : Nat := 512
/-- Move records over all cues of the list (R94). -/
def maxRecords : Nat := 4096
/-- Move records of one cue (R91). -/
def maxCueRecords : Nat := 64
/-- Move records of one part of a load (R97). -/
def maxPartRecords : Nat := 6
/-- Triggers of the schedule list (R121). -/
def maxTriggers : Nat := 16
/-- Requests of the inbound queue (R186). -/
def maxInbound : Nat := 8
/-- Waiting requests from which a reply carries PORT_BUSY (R186). -/
def portBusyFrom : Nat := 6
/-- Reports of the report queue (R191). -/
def maxReports : Nat := 32
/-- Payload bytes of one frame (R185, R187). -/
def maxPayload : Nat := 250
/-- Groups a channel may belong to (R60). -/
def maxGroupsOfChannel : Nat := 4
/-- Steps within which a fader has arrived at its target (R145, R146). -/
def arrival : Nat := 4
/-- Scans after which a seek times out, 800 ms (R146). -/
def seekScans : Nat := 400
/-- Successive timeouts that disable a strip (R146). -/
def seekTimeouts : Nat := 2
/-- Successive drifting scans that imply a touch (R147). -/
def driftScans : Nat := 3
/-- Still scans that imply a release, 500 ms (R147). -/
def stillScans : Nat := 250
/-- Scans of a settle phase, 200 ms (R152). -/
def settleScans : Nat := 100
/-- Raw values a drive phase is judged by (R152). -/
def driveWindow : Nat := 10
/-- Largest change of a settled drive (R152). -/
def driveSpread : Nat := 8
/-- Smallest travel a calibration accepts (R152). -/
def minTravel : Nat := 2048
/-- Scans after which a calibration times out, 1 500 ms (R152). -/
def calibrationScans : Nat := 750
/-- Clock steps of a hello window (R161). -/
def helloWindow : Nat := 50
/-- Clock steps between keepalives (R163). -/
def keepaliveSteps : Nat := 10
/-- Clock steps of silence at which a keepalive is lost (R163). -/
def silenceSteps : Nat := 30
/-- Entries of one update frame (R168). -/
def frameEntries : Nat := 8
/-- Microseconds between update frames of one link (R168). -/
def framePace : Nat := 250
/-- Accepted periods that acquire lock (R133). -/
def lockPeriods : Nat := 8
/-- Microseconds of holdover after which the clock is lost, 2 000 ms (R134). -/
def holdoverLimit : Nat := 2000000
/-- Vendor code of IDENT (R194). -/
def vendorCode : Nat := 0x0E71
/-- Part number of IDENT (R194). -/
def partNumber : Nat := 9624
/-- Silicon revision of IDENT (R194). -/
def revision : Nat := 1
/-- The request codes of spec/12_the_control_port.md 12.9. -/
def requestCodes : List Byte :=
  [0x01, 0x02, 0x03, 0x04, 0x05, 0x06, 0x07, 0x10, 0x11, 0x12, 0x13, 0x14, 0x20, 0x21, 0x22, 0x23, 0x24, 0x25, 0x26, 0x27,
    0x28, 0x29, 0x30, 0x31, 0x32, 0x33, 0x34, 0x35, 0x38, 0x39, 0x3A, 0x3B, 0x40, 0x41, 0x42, 0x43, 0x50, 0x51, 0x52, 0x53,
    0x54, 0x60, 0x61, 0x62, 0x70, 0x71, 0x72, 0x78, 0x79, 0x7A, 0x7B]

end Sys2Proof.Config
end

