-- ==== Sys2Proof/Syntax.lean ====
section
/-! DEFINITION. The commands of the Dobrega 9624: one constructor of Instr for each row of spec/opcode_table.json, with the
named values and the records their operands are made of. A request carries its TAG and its payload as fields; an event that one
block hands to another carries what the manual says the event carries. -/

namespace Sys2Proof

/-! ## Named values -/

/-- Fault action, in order of severity (R175, R178). -/
inductive Action where
  | none | hold | freeze | safe
deriving DecidableEq, Repr

/-- Curve of a move (R70). -/
inductive Curve where
  | linear | late | early | scurve
deriving DecidableEq, Repr

/-- Mute change a move carries (R70). -/
inductive MuteAction where
  | none | unmuteAtStart | muteAtEnd
deriving DecidableEq, Repr

/-- Source of the Fault Monitor (spec/11_faults_and_safe_states.md 11.1). -/
inductive Source where
  | watchdog | frame | link (n : LinkNo) | clock | motor | overflow
deriving DecidableEq, Repr

/-- Scope of RESET (R195). -/
inductive Scope where
  | playback | surface | links | all
deriving DecidableEq, Repr

/-- Targets of a move record, by target kind (R93). -/
inductive Targets where
  | list (cs : List ChanNo)
  | range (first last : ChanNo)
  | members (g : GroupNo)
  | master (g : GroupNo)
deriving DecidableEq, Repr

/-- A move record of a cue (R92). -/
structure MoveRecord where
  targets : Targets
  level : Position
  delay : Nat
  time : Nat
  curve : Curve
  mute : MuteAction
deriving DecidableEq, Repr

/-- The kind of edit a list edited event carries (R100). `first` says the list was empty before. -/
inductive Edit where
  | added (n : Nat) (first : Bool)
  | replaced (n : Nat)
  | deleted (n : Nat)
  | cleared
deriving DecidableEq, Repr

/-! ## Payloads of requests

A payload of a length that fits none of the request's forms is `wrongLength` (R187); any other is its fields, as numbers that
the request's rule has still to check against their ranges. `none` in an optional whole form is the empty payload, or the
payload without the optional fields. -/

/-- A request's payload: of a wrong length, or its fields. -/
inductive Form (α : Type) where
  | wrongLength
  | fields (a : α)
deriving DecidableEq, Repr

/-- A RESET payload at the row of one scope: a wrong length, a value that is no scope, or the row's own scope (R195). -/
inductive ResetForm where
  | wrongLength
  | badScope (v : Nat)
  | own
deriving DecidableEq, Repr

/-- REPORT_MODE: nine enables and the move report mode (R189). -/
structure ReportModeFields where
  enables : List Nat
  mode : Nat
deriving DecidableEq, Repr

/-- WATCH_SET: entry, in-use mark, value, mask (R190). -/
structure WatchFields where
  entry : Nat
  inUse : Nat
  value : Nat
  mask : Nat
deriving DecidableEq, Repr

/-- HEARTBEAT_CONFIG: enable and limits (R192). -/
structure HeartbeatFields where
  enable : Nat
  upper : Nat
  lower : Nat
deriving DecidableEq, Repr

/-- Targets as a CUE_LOAD part carries them (R93, R196). -/
inductive RawTargets where
  | list (cs : List Nat)
  | range (first last : Nat)
  | members (g : Nat)
  | master (g : Nat)
deriving DecidableEq, Repr

/-- A move record as a CUE_LOAD part carries it (R92, R196). -/
structure RawRecord where
  targets : RawTargets
  level : Nat
  delay : Nat
  time : Nat
  curve : Nat
  mute : Nat
deriving DecidableEq, Repr

/-- A cue header as part 0 carries it (R97); `follow` and `link` are absent as `none`. -/
structure RawHeader where
  label : List Byte
  follow : Option Nat
  link : Option Nat
  age : Nat
deriving DecidableEq, Repr

/-- CUE_LOAD: one part (R97). The header is present in part 0. -/
structure CueLoadFields where
  cue : Nat
  part : Nat
  last : Nat
  header : Option RawHeader
  records : List RawRecord
deriving DecidableEq, Repr

/-- CUE_READ: cue number, match mode, first record index (R105). -/
structure CueReadFields where
  cue : Nat
  mode : Nat
  index : Nat
deriving DecidableEq, Repr

/-- GO: the two optional expected values (R114). -/
structure GoFields where
  cue : Option Nat
  generation : Option Nat
deriving DecidableEq, Repr

/-- GOTO: cue number and fire option (R115). The row GOTO has the option clear, which is 0. -/
structure GotoFields where
  cue : Nat
  fire : Nat
deriving DecidableEq, Repr

/-- SCHEDULE_ADD: show time and cue number (R121). -/
structure TriggerFields where
  time : Nat
  cue : Nat
deriving DecidableEq, Repr

/-- CHAN_SET: channels, level, time, curve (R41). -/
structure ChanSetFields where
  channels : List Nat
  level : Nat
  time : Nat
  curve : Nat
deriving DecidableEq, Repr

/-- CHAN_CONFIG: a range of channels and five optional fields (R42); a safe level of `some none` is NONE. -/
structure ChanConfigFields where
  first : Nat
  count : Nat
  staticTrim : Option Int
  releaseMode : Option Nat
  touchPolicy : Option Nat
  safeLevel : Option (Option Nat)
  safed : Option Nat
deriving DecidableEq, Repr

/-- A first number and a count (R43, R57, R157). -/
structure RangeFields where
  first : Nat
  count : Nat
deriving DecidableEq, Repr

/-- A list of numbers and a mark, ON or OFF (R40, R66). -/
structure MuteFields where
  list : List Nat
  value : Nat
deriving DecidableEq, Repr

/-- LEVEL_CONFIG: glide time, mute ramp time, slew limit (R16). -/
structure LevelFields where
  glide : Nat
  ramp : Nat
  slew : Nat
deriving DecidableEq, Repr

/-- TRIM_SET: first channel and one trim for each channel counted (R54). -/
structure TrimSetFields where
  first : Nat
  trims : List Int
deriving DecidableEq, Repr

/-- GROUP_MEMBERS: group and list of channels (R61). -/
structure MembersFields where
  group : Nat
  channels : List Nat
deriving DecidableEq, Repr

/-- GROUP_SET: group, master position, time, curve (R65). -/
structure GroupSetFields where
  group : Nat
  position : Nat
  time : Nat
  curve : Nat
deriving DecidableEq, Repr

/-- The two forms of GROUP_READ (R68). -/
inductive GroupReadFields where
  | one (g : Nat)
  | range (first count : Nat)
deriving DecidableEq, Repr

/-- BANK_MAP: bank and, optionally, a first strip and its entries, `none` being EMPTY (R149). -/
structure BankMapFields where
  bank : Nat
  write : Option (Nat × List (Option Nat))
deriving DecidableEq, Repr

/-- The surface settings SURFACE_CONFIG carries (R155). -/
structure SurfaceFields where
  start : Nat
  stop : Nat
  touch : Nat
  release : Nat
  debounce : Nat
  hysteresis : Nat
  drift : Nat
deriving DecidableEq, Repr

/-- The three forms of SURFACE_CONFIG (R155). -/
inductive SurfaceConfigFields where
  | read
  | settings (f : SurfaceFields)
  | fineOffset (strip : Nat) (offset : Int)
deriving DecidableEq, Repr

/-- SLOT_MAP: link, first slot, count and, optionally, one entry per slot counted, `none` being NONE (R170). -/
structure SlotMapFields where
  link : Nat
  first : Nat
  count : Nat
  entries : Option (List (Option Nat))
deriving DecidableEq, Repr

/-- The five settings LINK_CONFIG carries (R172). -/
structure LinkSettings where
  enable : Nat
  high : Nat
  low : Nat
  step : Nat
  mirror : Option Nat
deriving DecidableEq, Repr

/-- LINK_CONFIG: link and, optionally, the five settings (R172). -/
structure LinkConfigFields where
  link : Nat
  settings : Option LinkSettings
deriving DecidableEq, Repr

/-- CLOCK_CONFIG: source and reference rate (R135). -/
structure ClockFields where
  source : Nat
  rate : Nat
deriving DecidableEq, Repr

/-- The three fields FAULT_CONFIG carries (R180). -/
structure FaultSettings where
  action : Nat
  trip : Nat
  mask : Nat
deriving DecidableEq, Repr

/-- FAULT_CONFIG: source and, optionally, the three fields (R180). -/
structure FaultConfigFields where
  source : Nat
  settings : Option FaultSettings
deriving DecidableEq, Repr

/-! ## The commands -/

/-- One constructor per row of spec/opcode_table.json. A clock step carries the show time to its block (R130). Only the Cue
Sequencer reads it, so that the other steps may be written without it and then carry 0. -/
inductive Instr where
  -- the control link (chapter 12)
  | powerOn (rate1 rate0 : Bool)
  | lineError
  | receiveGap
  | frameLenInvalid (b : Byte)
  | frameReceived (b : Byte)
  | unknown (tag code : Byte)
  | replyFrame
  | reportFrame
  | frameSent
  | ident (tag : Byte) (form : Form Unit)
  | heartbeat (tag : Byte) (form : Form Unit)
  | status (tag : Byte) (form : Form Unit)
  | resetPlayback (tag : Byte) (form : ResetForm)
  | resetSurface (tag : Byte) (form : ResetForm)
  | resetLinks (tag : Byte) (form : ResetForm)
  | resetAll (tag : Byte) (form : ResetForm)
  | resetTakesEffect
  | reportMode (tag : Byte) (form : Form (Option ReportModeFields))
  | watchSet (tag : Byte) (form : Form (Option WatchFields))
  | heartbeatConfig (tag : Byte) (form : Form (Option HeartbeatFields))
  | portClockStep (showTime : Nat := 0)
  | heartbeatLate
  -- the cue list (chapter 6)
  | cueLoad (tag : Byte) (form : Form CueLoadFields)
  | cueDelete (tag : Byte) (form : Form Nat)
  | cueRead (tag : Byte) (form : Form CueReadFields)
  | listClear (tag : Byte) (form : Form Unit)
  | listInfo (tag : Byte) (form : Form Unit)
  -- playback (chapter 7)
  | listEdited (edit : Edit) (count : Nat)
  | go (tag : Byte) (form : Form GoFields)
  | back (tag : Byte) (form : Form Unit)
  | goto (tag : Byte) (form : Form GotoFields)
  | gotoFire (tag : Byte) (form : Form Nat)
  | hold (tag : Byte) (form : Form Unit)
  | resume (tag : Byte) (form : Form Unit)
  | stop (tag : Byte) (form : Form Unit)
  | scheduleAdd (tag : Byte) (form : Form TriggerFields)
  | scheduleCancel (tag : Byte) (form : Form (Option Nat))
  | playbackRead (tag : Byte) (form : Form Unit)
  | playbackConfig (tag : Byte) (form : Form (Option Nat))
  | sequencerClockStep (showTime : Nat)
  | followExpiry (showTime : Nat)
  | scheduleTriggerDue (showTime : Nat)
  | showTimeSet (old new : Nat)
  | effectiveActionAtSequencer (a : Action)
  -- moves (chapter 5)
  | cueFire (cue : Nat) (records : List MoveRecord) (back : Option Nat)
  | moveEngineClockStep (showTime : Nat := 0)
  | moveStart (id : Nat)
  | moveCompleted (id : Nat)
  | channelYielded (c : ChanNo)
  | channelMadeSafe (c : ChanNo)
  | cancellation
  | playbackHeld
  | playbackResumed
  -- channels (chapters 1 and 2)
  | chanSet (tag : Byte) (form : Form ChanSetFields)
  | chanConfig (tag : Byte) (form : Form ChanConfigFields)
  | chanRead (tag : Byte) (form : Form RangeFields)
  | muteSet (tag : Byte) (form : Form MuteFields)
  | chanRelease (tag : Byte) (form : Form (List Nat))
  | levelConfig (tag : Byte) (form : Form (Option LevelFields))
  | channelClockStep (c : ChanNo) (showTime : Nat := 0)
  | glideEnd (c : ChanNo)
  | safeGlideEnd (c : ChanNo)
  | settling (c : ChanNo)
  | automationPositionChanged (c : ChanNo) (p : Position)
  | currentTrimChanged (c : ChanNo) (t : Trim)
  | touchEvent (c : ChanNo) (strip : StripNo) (p : Position)
  | operatorPosition (c : ChanNo) (strip : StripNo) (p : Position)
  | releaseEvent (c : ChanNo) (strip : StripNo) (reset : Bool)
  | effectiveActionChanged (c : ChanNo) (a : Action)
  | muteKeyEvent (c : ChanNo)
  | muteAction (c : ChanNo) (on : Bool)
  | masterChanged (c : ChanNo) (g : GroupNo)
  | masterMuteChanged (c : ChanNo) (g : GroupNo)
  | joinedGroup (c : ChanNo) (g : GroupNo)
  | leftGroup (c : ChanNo) (g : GroupNo)
  | stripAssigned (c : ChanNo) (strip : StripNo)
  | stripReleased (c : ChanNo) (strip : StripNo)
  -- trim memory (chapter 3)
  | learn (c : ChanNo) (t : Trim)
  | rotation
  | trimSet (tag : Byte) (form : Form TrimSetFields)
  | trimRotate (tag : Byte) (form : Form Unit)
  | trimClear (tag : Byte) (form : Form (Option Nat))
  | trimRead (tag : Byte) (form : Form RangeFields)
  -- groups (chapter 4)
  | groupMembers (tag : Byte) (form : Form MembersFields)
  | groupSet (tag : Byte) (form : Form GroupSetFields)
  | groupMute (tag : Byte) (form : Form MuteFields)
  | groupRead (tag : Byte) (form : Form GroupReadFields)
  | masterPositionChanged (g : GroupNo) (p : Position)
  | masterMuteAction (g : GroupNo) (on : Bool)
  -- the fader surface (chapter 9)
  | scan (strip : StripNo) (raw : Fin 4096) (touch : Byte)
  | impliedRelease (strip : StripNo) (raw : Fin 4096) (touch : Byte)
  | seekArrived (strip : StripNo) (raw : Fin 4096) (touch : Byte)
  | seekTimeout (strip : StripNo) (raw : Fin 4096) (touch : Byte)
  | calibrationPhaseEnd (strip : StripNo) (raw : Fin 4096) (touch : Byte)
  | calibrationTimeout (strip : StripNo) (raw : Fin 4096) (touch : Byte)
  | motorTarget (strip : StripNo) (c : ChanNo) (p : Position)
  | lampEvent (strip : StripNo) (c : ChanNo) (lit : Bool)
  | muteKeyPress (strip : StripNo)
  | bankKeyPress (bank : BankNo)
  | bankMap (tag : Byte) (form : Form BankMapFields)
  | bankSelect (tag : Byte) (form : Form Nat)
  | stripCalibrate (tag : Byte) (form : Form (List Nat))
  | surfaceConfig (tag : Byte) (form : Form SurfaceConfigFields)
  | stripRead (tag : Byte) (form : Form RangeFields)
  -- output links (chapter 10)
  | linkClockStep (l : LinkNo) (showTime : Nat := 0)
  | helloUnanswered (l : LinkNo)
  | ready (l : LinkNo)
  | keepalive (l : LinkNo)
  | keepaliveAcknowledgement (l : LinkNo)
  | keepaliveLost (l : LinkNo)
  | linkMessageDiscard (l : LinkNo) (message : List Byte)
  | linkMessageGap (l : LinkNo)
  | outputGainChanged (l : LinkNo) (c : ChanNo) (o : Gain) (settled : Bool)
  | channelSettled (l : LinkNo) (c : ChanNo) (o : Gain)
  | updateFrame (l : LinkNo) (time : Nat)
  | sourceTripped (l : LinkNo)
  | sourceCleared (l : LinkNo)
  | slotMap (tag : Byte) (form : Form SlotMapFields)
  | linkConfig (tag : Byte) (form : Form LinkConfigFields)
  | linkRead (tag : Byte) (form : Form Nat)
  -- the show clock (chapter 8)
  | clockStep
  | referencePulse (time : Nat)
  | silenceLimit
  | holdoverExpiry
  | clockConfig (tag : Byte) (form : Form (Option ClockFields))
  | clockSet (tag : Byte) (form : Form Nat)
  | clockRead (tag : Byte) (form : Form Unit)
  -- faults (chapter 11)
  | occurrence (src : Source)
  | goodEvent (src : Source)
  | faultConfig (tag : Byte) (form : Form FaultConfigFields)
  | faultClear (tag : Byte) (form : Form Nat)
  | faultTest (tag : Byte) (form : Form Nat)
  | faultRead (tag : Byte) (form : Form Unit)
  -- the last row of the table
  | byteReceived (b : Byte)
deriving DecidableEq, Repr

end Sys2Proof
end

