-- ==== Sys2Proof/Decode.lean ====
section
/-! DEFINITION. Words of the opcode table. No row of spec/opcode_table.json gives bits, so no word spells a command (log 28). The
frames of the control link are read in Sys2Proof/Machine/Operands.lean. -/

namespace Sys2Proof

/-- The command a word of the table spells: none, the table gives no row any bits. -/
def decodeTableWord (_nbits _w : Nat) : Option Instr := none

end Sys2Proof
end

