-- ==== Sys2Proof/Machine/State.lean ====
section
/-! DEFINITION. The state of the Dobrega 9624, block by block (spec/00_scope.md 1.2), as plain data, and the state after
power-on. A field that the manual marks as present only in some states is an argument of those states' constructors. -/

namespace Sys2Proof.Machine

/-! ## Why a command can stop

No command of this block stops it: every refusal of the manual is a reply, every fault of chapter 11 is state. -/

/-- Faults that stop the machine. There are none. -/
inductive Fault where
deriving DecidableEq, Repr

/-- Refusals of a command. -/
inductive Refusal where
  /-- Raised by exec for a row without a meaning; no row of this model is without one. Safe. -/
  | notModelled (mnemonic : String)
deriving DecidableEq, Repr

/-! ## Channel Table (chapters 1 and 2) -/

/-- A running glide or safe glide: origin R, progress g and glide length (R21). -/
structure Glide where
  origin : Position
  progress : Nat
  length : Nat
deriving DecidableEq, Repr

/-- How a FORCED channel is held (R21). -/
inductive Forced where
  | frozen
  | safeGlide (g : Glide)
  | atSafe
deriving DecidableEq, Repr

/-- The ownership state of a channel (R21). -/
inductive Owner where
  | auto
  | touched
  | glide (g : Glide)
  | manual
  | forced (m : Forced)
deriving DecidableEq, Repr

/-- What follows a release (R21). -/
inductive ReleaseMode where
  | ret | learn | latch
deriving DecidableEq, Repr

/-- What a touch does to moves (R21). -/
inductive TouchPolicy where
  | shadow | yield
deriving DecidableEq, Repr

/-- One channel record: ownership fields (R21), working trim (R48) and level fields (R1). -/
structure Channel where
  owner : Owner := .auto
  pAuto : Position := 0
  pOp : Position := 0
  pEff : Position := 0
  releasePos : Position := 0
  ownMute : Bool := false
  releaseMode : ReleaseMode := .ret
  touchPolicy : TouchPolicy := .shadow
  safeLevel : Option Position := none
  safed : Bool := false
  strip : Option StripNo := none
  applied : Action := .none
  workingTrim : Trim := Trim.zero
  gain : Gain := .off
  clip : Bool := false
  mute : Int := 0
  muteGoal : Int := 0
  target : Gain := .off
  output : Gain := .off
  settled : Bool := true
  staticTrim : Int := 0
  /-- The model's own: the effective mute as last worked out at the channel (DESIGN CHOICE, log 13). -/
  seenMute : Bool := false
deriving DecidableEq, Repr

/-- The three device-wide level settings (R1). -/
structure Levels where
  glideTime : Nat := 1000
  muteRamp : Nat := 20
  slew : Nat := 30
deriving DecidableEq, Repr

/-! ## Trim Memory (chapter 3) -/

/-- The names of the three trim tables (R47). -/
inductive TrimTable where
  | a | b | c
deriving DecidableEq, Repr

/-- The three tables and the table playing Current (R47). The roles only ever rotate (R51), so Next is the table after
Current and Spare the one after Next. -/
structure TrimMemory where
  a : Vector Trim 96 := Vector.replicate 96 Trim.zero
  b : Vector Trim 96 := Vector.replicate 96 Trim.zero
  c : Vector Trim 96 := Vector.replicate 96 Trim.zero
  current : TrimTable := .a
deriving DecidableEq, Repr

/-! ## Group Table (chapter 4) -/

/-- One group record; the members stand in ascending order (R59). -/
structure Group where
  master : Position := 768
  muted : Bool := false
  members : List ChanNo := []
deriving DecidableEq, Repr

/-! ## Move Engine (chapter 5) -/

/-- What a move moves (R70): targets 0 to 95 are channels, 96 to 111 masters. -/
inductive Target where
  | channel (c : ChanNo)
  | master (g : GroupNo)
deriving DecidableEq, Repr

/-- Where a move stands (R70). -/
inductive Phase where
  | waiting (delay : Nat)
  | running (elapsed : Nat) (start : Position)
deriving DecidableEq, Repr

/-- One move (R70). -/
structure Move where
  id : Nat
  cue : Option Nat
  target : Target
  phase : Phase
  duration : Nat
  goal : Position
  curve : Curve
  mute : MuteAction
  /-- The model's own: channel yielded events for the target that were in flight as the move started (R78; log 29). -/
  earlierYields : Nat := 0
deriving DecidableEq, Repr

/-- How a move ends (R86). -/
inductive MoveResult where
  | completed | takenOver | yielded | safed | cancelled | overflow
deriving DecidableEq, Repr

/-- Which move ends are offered as reports (R88). -/
inductive MoveReports where
  | all | exceptions | none
deriving DecidableEq, Repr

/-- The Move Engine (R70, R71, R87, R88). -/
structure MoveEngine where
  moves : List Move := []
  nextId : Nat := 0
  held : Bool := false
  reports : MoveReports := .exceptions
deriving DecidableEq, Repr

/-! ## Cue Store (chapter 6) -/

/-- The header of a cue (R91). -/
structure CueHeader where
  label : List Byte
  follow : Option Nat
  link : Option Nat
  age : Bool
deriving DecidableEq, Repr

/-- A cue record (R91). -/
structure Cue where
  number : Nat
  header : CueHeader
  records : List MoveRecord
deriving DecidableEq, Repr

/-- The load buffer when it holds a cue (R96). -/
structure LoadBuffer where
  number : Nat
  header : CueHeader
  staged : List MoveRecord
  nextPart : Nat
deriving DecidableEq, Repr

/-- The Cue Store (R94, R95, R96). -/
structure CueStore where
  cues : List Cue := []
  generation : Nat := 0
  buffer : Option LoadBuffer := none
deriving DecidableEq, Repr

/-! ## Cue Sequencer (chapter 7) -/

/-- The playback states (R108). -/
inductive PlayState where
  | empty | ready | following | held | ended
deriving DecidableEq, Repr

/-- A follow countdown and the cue that started it (R108). -/
structure Follow where
  countdown : Nat
  source : Nat
deriving DecidableEq, Repr

/-- A trigger of the schedule list; `due` is the state DUE (R121). -/
structure Trigger where
  time : Nat
  cue : Nat
  due : Bool
deriving DecidableEq, Repr

/-- Why a cue fired (R125). -/
inductive Cause where
  | go | goto | follow | schedule | scheduleLate | back
deriving DecidableEq, Repr

/-- The Cue Sequencer (R108). -/
structure Sequencer where
  state : PlayState := .empty
  standby : Option Nat := none
  lastFired : Option Nat := none
  follow : Option Follow := none
  listEmpty : Bool := true
  schedule : List Trigger := []
  backTime : Nat := 2000
  action : Action := .none
deriving DecidableEq, Repr

/-! ## Surface Controller (chapter 9) -/

/-- Phases of a calibration (R152, R153). -/
inductive CalPhase where
  | bottomDrive | bottomSettle | topDrive | topSettle | waitRelease
deriving DecidableEq, Repr

/-- Results of a calibration (R139). -/
inductive CalResult where
  | ok | fail | timeout | aborted
deriving DecidableEq, Repr

/-- A running calibration (R152). `newLow` is the low measured at the end of BOTTOM_SETTLE (DEDUCED, log 15). -/
structure Calibration where
  phase : CalPhase := .bottomDrive
  total : Nat := 0
  scans : Nat := 0
  raws : List Nat := []
  disabledStart : Bool := false
  newLow : Nat := 0
deriving DecidableEq, Repr

/-- The strip states (R139). A TOUCHED strip with the implied mark carries its still time. -/
inductive StripState where
  | absent
  | calibrating (cal : Calibration)
  | unmapped
  | seeking (time : Nat)
  | tracking (drift : Nat)
  | touched (still : Option Nat)
  | disabled
deriving DecidableEq, Repr

/-- How a fader's motor is driven: toward a position, holding one, down or up its travel, or not at all (R146, R152). -/
inductive Drive where
  | off
  | toward (p : Position)
  | hold (p : Position)
  | down
  | up
deriving DecidableEq, Repr

/-- What stands on the surface bus for a strip: the raw position and the touch count (R141; at reset DESIGN CHOICE, log 31). -/
structure Reading where
  raw : Fin 4096 := 0
  touch : Byte := 0
deriving DecidableEq, Repr

/-- One strip record (R139) with its lamp (R151). `owed` is the model's own: scans that clock steps have made due and that have
not been taken yet (R141; log 31). -/
structure Strip where
  state : StripState
  channel : Option ChanNo
  raw : Nat := 0
  converted : Position := 0
  reported : Position := 0
  reading : Bool := false
  onRun : Nat := 0
  offRun : Nat := 0
  target : Option Position := none
  timeouts : Nat := 0
  low : Nat := 64
  high : Nat := 4031
  fine : Int := 0
  result : Option CalResult := none
  lamp : Bool := false
  owed : Nat := 0
deriving DecidableEq, Repr

/-- The surface-wide settings but the active bank (R140). -/
structure SurfaceSettings where
  start : Nat := 0
  stop : Nat := 23
  touch : Nat := 96
  release : Nat := 64
  debounce : Nat := 2
  hysteresis : Nat := 2
  drift : Nat := 32
deriving DecidableEq, Repr

/-- One bank: an entry for each strip, `none` being EMPTY (R148). -/
abbrev Bank := Vector (Option ChanNo) 24

/-- Entry of strip `s` in bank `b` of the default bank map: channel 24 b + s (R148). -/
def defaultEntry (b : BankNo) (s : StripNo) : Option ChanNo :=
  some ⟨24 * b.val + s.val, by omega⟩

/-- The strips after power-on: calibrating, each with the channel of its bank-0 entry (R158). -/
def poweredStrip (s : StripNo) : Strip :=
  { state := .calibrating {}, channel := defaultEntry 0 s }

/-- The Surface Controller (R139, R140, R148). `halfStep` says that a clock step has been taken since the last at which the
strips were scanned (R141), `bus` is the surface bus (log 31). -/
structure Surface where
  strips : Vector Strip 24 := Vector.ofFn poweredStrip
  settings : SurfaceSettings := {}
  activeBank : BankNo := 0
  banks : Vector Bank 4 := Vector.ofFn fun b => Vector.ofFn (defaultEntry b)
  halfStep : Bool := false
  bus : Vector Reading 24 := Vector.replicate 24 {}
deriving DecidableEq, Repr

/-! ## Gain Link Controller (chapter 10) -/

/-- The link states, with the hello window, or the keepalive timer and the silence (R160). -/
inductive LinkState where
  | off
  | training (window : Nat)
  | up (keepalive silence : Nat)
  | fault (window : Nat)
deriving DecidableEq, Repr

/-- A slot map of one link, `none` being NONE (R160). -/
abbrev SlotMap := Vector (Option ChanNo) 64

/-- The default own maps (R160). -/
def defaultMap (l : LinkNo) : SlotMap :=
  Vector.ofFn fun slot : Slot =>
    if l.val = 0 then some ⟨slot.val, by omega⟩
    else if h : l.val = 1 ∧ slot.val < 32 then some ⟨64 + slot.val, by omega⟩
    else none

/-- One link record (R160). -/
structure Link where
  state : LinkState := .training Config.helloWindow
  enable : Bool := true
  ownMap : SlotMap
  mirror : Option LinkNo := none
  high : Nat := 48
  low : Nat := 16
  step : Nat := 5
  queue : List (Slot × Gain) := []
  congested : Bool := false
  stale : List Slot := []
  lastSent : Vector (Option Gain) 64 := Vector.replicate 64 none
  tripped : Bool := false
  framesSent : Nat := 0
  entriesSent : Nat := 0
  hellosUnanswered : Nat := 0
  keepaliveLosses : Nat := 0
  /-- Internal time of the last frame sent since the link entered UP, absent where none was (R168). -/
  lastFrame : Option Nat := none
deriving DecidableEq, Repr

/-! ## Show Clock (chapter 8) -/

/-- Where the pace of the steps comes from (R129). -/
inductive ClockSource where
  | internal | external
deriving DecidableEq, Repr

/-- The lock states with acquisition count, silence in µs, holdover elapsed in µs (R129). -/
inductive LockState where
  | free
  | acquiring (count : Nat)
  | locked (silence : Nat)
  | holdover (elapsed : Nat)
  | lost
deriving DecidableEq, Repr

/-- The Show Clock (R129). `now`, `carry`, `pace` and `due` are the internal time base in µs, the part of the running step
interval that has passed in units of which 10⁹ are an interval, the rate offset of that interval, and the intervals that have
ended and whose clock steps have not come yet (R131; DESIGN CHOICE, log 8). -/
structure Clock where
  showTime : Nat := 0
  source : ClockSource := .internal
  rate : Nat := 25
  lock : LockState := .free
  rho : Int := 0
  history : List Nat := []
  mark : Option Nat := none
  now : Nat := 0
  carry : Nat := 0
  pace : Int := 0
  due : Nat := 0
deriving DecidableEq, Repr

/-! ## Fault Monitor (chapter 11) -/

/-- Standing of a source (R175). -/
inductive SourceState where
  | clear | counting | tripped
deriving DecidableEq, Repr

/-- One source record (R175). -/
structure SourceRecord where
  action : Action := .none
  trip : Nat := 1
  masked : Bool := false
  state : SourceState := .clear
  count : Nat := 0
  sticky : Bool := false
deriving DecidableEq, Repr

/-- The Fault Monitor (R175, R178). -/
structure FaultMonitor where
  watchdog : SourceRecord := { action := .hold }
  frame : SourceRecord := { trip := 4 }
  links : Vector SourceRecord 4 := Vector.replicate 4 {}
  clock : SourceRecord := {}
  motor : SourceRecord := {}
  overflow : SourceRecord := {}
  effective : Action := .none
deriving DecidableEq, Repr

/-! ## Control Port (chapter 12) -/

/-- Status of a reply (R196). -/
inductive Status where
  | ok | badLength | unknown | range | state | full | stale | conflict | busy | absent | stillPresent
deriving DecidableEq, Repr

/-- The reply buffer: one reply and the frame to be sent next (R186, R187). -/
structure Reply where
  tag : Byte
  code : Byte
  status : Status
  busy : Bool
  payload : List Byte
  next : Nat := 0
deriving DecidableEq, Repr

/-- An entry of the inbound queue (R186). -/
structure Request where
  tag : Byte
  code : Byte
  payload : List Byte
deriving DecidableEq, Repr

/-- The receiver; in FRAME it holds the bytes received after the sync byte (R185). -/
inductive Receiver where
  | hunt
  | frame (got : List Byte)
deriving DecidableEq, Repr

/-- What the transmitter is sending (R188). -/
inductive Sending where
  | reply | report
deriving DecidableEq, Repr

/-- One watch filter entry (R190). -/
structure Watch where
  inUse : Bool := false
  value : Nat := 0
  mask : Nat := 0
deriving DecidableEq, Repr

/-- Kinds of report, in the order of their codes (R196). -/
inductive ReportKind where
  | moveEnd | cueFired | level | touch | fault | clockState | linkState | stripState | schedule
deriving DecidableEq, Repr

/-- A link state or a strip state or a lock state, by name (R137, R156, R173). -/
abbrev StateCode := Nat

/-- A report, with the values its block gave at the offer (R86, R125, R14, R156, R182, R137, R173). -/
inductive Report where
  | moveEnd (id : Nat) (cue : Option Nat) (target : Target) (result : MoveResult) (final : Position)
  | cueFired (cue : Nat) (cause : Cause) (standby follow : Option Nat) (showTime : Nat)
  | level (c : ChanNo) (o : Gain) (clip : Bool)
  | touch (strip : StripNo) (c : Option ChanNo) (released implied : Bool) (p : Position)
  | fault (src : Source) (cleared : Bool) (count : Nat) (action effective : Action)
  | clockState (old new : StateCode) (source : ClockSource) (rate showTime : Nat) (rho : Int)
  | linkState (l : LinkNo) (old new : StateCode) (mirror : Option LinkNo)
  | stripState (strip : StripNo) (old new : StateCode) (c : Option ChanNo) (result : Option CalResult)
  | schedule (late : Bool) (cue time showTime : Nat)
deriving DecidableEq, Repr

/-- The heartbeat settings and the timer, present while enabled (R192). -/
structure Heartbeat where
  upper : Nat := 2000
  lower : Nat := 0
  timer : Option Nat := none
deriving DecidableEq, Repr

/-- The sticky port flags (R194). -/
structure PortFlags where
  overrun : Bool := false
  reportLost : Bool := false
  frameError : Bool := false
  resetSeen : Bool := true
deriving DecidableEq, Repr

/-- The Control Port (R184 to R195). `lineRate` is 0, 1 or 2 as IDENT carries it. -/
structure Port where
  lineRate : Nat := 0
  receiver : Receiver := .hunt
  inbound : List Request := []
  reply : Option Reply := none
  sending : Option Sending := none
  resetWaiting : Option Scope := none
  flags : PortFlags := {}
  enables : Vector Bool 9 := #v[true, true, false, true, true, true, true, true, true]
  watches : Vector Watch 8 := Vector.replicate 8 {}
  reports : List Report := []
  heartbeat : Heartbeat := {}
deriving DecidableEq, Repr

/-! ## The whole part -/

/-- What the part has put on a line: a control link frame, or a gain link message (R188, R197). -/
inductive Outbound where
  | control (frame : List Byte)
  | link (l : LinkNo) (message : List Byte)
deriving DecidableEq, Repr

/-- The machine. `pending` holds the commands that wait, `handed` the events one block has handed to another and that are
not yet taken, oldest first (log 1), `sent` what has been put on the lines, oldest first (log 20). -/
structure State where
  pending : List Instr
  handed : List Instr
  sent : List Outbound
  port : Port
  store : CueStore
  seq : Sequencer
  engine : MoveEngine
  levels : Levels
  channels : Vector Channel 96
  trims : TrimMemory
  groups : Vector Group 16
  surface : Surface
  links : Vector Link 4
  clock : Clock
  faults : FaultMonitor
deriving DecidableEq, Repr

/-- The strip assigned events of the assignment pass at power-on (R158, R44). -/
def poweredAssignments : List Instr :=
  (List.finRange 24).map fun s => .stripAssigned ⟨s.val, by omega⟩ s

/-- The hello message, A5h 01h 00h and its CRC (R161, R196). -/
def helloMessage : List Byte := [0xA5, 0x01, 0x00, 0x2E, 0x3E]

/-- The hellos the four links send as their training begins (R160). -/
def poweredHellos : List Outbound :=
  (List.finRange 4).map fun l => .link l helloMessage

/-- The part right after power-on, at the line rate of straps 00 (DESIGN CHOICE, log 10). -/
def State.reset : State where
  pending := []
  handed := poweredAssignments
  sent := poweredHellos
  port := {}
  store := {}
  seq := {}
  engine := {}
  levels := {}
  channels := Vector.replicate 96 {}
  trims := {}
  groups := Vector.replicate 16 {}
  surface := {}
  links := Vector.ofFn fun l => { ownMap := defaultMap l }
  clock := {}
  faults := {}

end Sys2Proof.Machine
end

