-- ==== Sys2Proof/Machine/Ops.lean ====
section
/-! DEFINITION. The operations every block shares: records of the tables, events handed and taken, reports offered (R189 to
R191), and the two roundings of the manual. -/

namespace Sys2Proof.Machine

/-- What a command answers. -/
abbrev Result := Host.Outcome State Fault Refusal

/-! ## Records of the tables -/

/-- The record of channel `c`. -/
def State.channel (s : State) (c : ChanNo) : Channel := s.channels[c]

/-- `s` with the record of channel `c` written. -/
def State.setChannel (s : State) (c : ChanNo) (r : Channel) : State :=
  { s with channels := s.channels.set c r }

/-- The record of group `g`. -/
def State.group (s : State) (g : GroupNo) : Group := s.groups[g]

/-- `s` with the record of group `g` written. -/
def State.setGroup (s : State) (g : GroupNo) (r : Group) : State :=
  { s with groups := s.groups.set g r }

/-- The record of strip `n`. -/
def State.strip (s : State) (n : StripNo) : Strip := s.surface.strips[n]

/-- `s` with the record of strip `n` written. -/
def State.setStrip (s : State) (n : StripNo) (r : Strip) : State :=
  { s with surface := { s.surface with strips := s.surface.strips.set n r } }

/-- The record of link `l`. -/
def State.link (s : State) (l : LinkNo) : Link := s.links[l]

/-- `s` with the record of link `l` written. -/
def State.setLink (s : State) (l : LinkNo) (r : Link) : State :=
  { s with links := s.links.set l r }

/-- The record of a fault source. -/
def FaultMonitor.record (m : FaultMonitor) : Source → SourceRecord
  | .watchdog => m.watchdog
  | .frame => m.frame
  | .link n => m.links[n]
  | .clock => m.clock
  | .motor => m.motor
  | .overflow => m.overflow

/-- The monitor with the record of a fault source written. -/
def FaultMonitor.setRecord (m : FaultMonitor) (src : Source) (r : SourceRecord) : FaultMonitor :=
  match src with
  | .watchdog => { m with watchdog := r }
  | .frame => { m with frame := r }
  | .link n => { m with links := m.links.set n r }
  | .clock => { m with clock := r }
  | .motor => { m with motor := r }
  | .overflow => { m with overflow := r }

/-- The record of a fault source in the state. -/
def State.source (s : State) (src : Source) : SourceRecord := s.faults.record src

/-- `s` with the record of a fault source written. -/
def State.setSource (s : State) (src : Source) (r : SourceRecord) : State :=
  { s with faults := s.faults.setRecord src r }

/-- The nine sources in the order of the Fault Monitor's tables (R175). -/
def allSources : List Source :=
  [.watchdog, .frame, .link 0, .link 1, .link 2, .link 3, .clock, .motor, .overflow]

/-- Every channel, in ascending order. -/
def allChannels : List ChanNo := List.finRange 96

/-- `f` at each channel in ascending order. -/
def State.forChannels (f : ChanNo → State → State) (s : State) : State :=
  allChannels.foldl (fun t c => f c t) s

/-! ## Events handed and taken (spec/00_scope.md 3.3; log 1) -/

/-- Hand events to the blocks that will take them. -/
def State.hand (s : State) (es : List Instr) : State :=
  { s with handed := s.handed ++ es }

/-- Take an event: the first in flight that equals it is in flight no longer. -/
def State.take (s : State) (e : Instr) : State :=
  { s with handed := s.handed.erase e }

/-- The show time that an event carries, if it is a clock step (R130). -/
def carriedTime? : Instr → Option Nat
  | .channelClockStep _ t => some t
  | .moveEngineClockStep t => some t
  | .sequencerClockStep t => some t
  | .linkClockStep _ t => some t
  | .portClockStep t => some t
  | _ => none

/-- The clock step that a block takes next, `step` making it from the show time it carries: the first in flight, else one with
the clock's present show time (R130; log 4). -/
def State.nextStep (s : State) (step : Nat → Instr) : Instr :=
  step ((s.handed.findSome? fun e => (carriedTime? e).filter fun t => e = step t).getD s.clock.showTime)

/-- Put something on a line. -/
def State.emit (s : State) (o : Outbound) : State :=
  { s with sent := s.sent ++ [o] }

/-! ## Reports (R189 to R191) -/

/-- The kind of a report. -/
def Report.kind : Report → ReportKind
  | .moveEnd .. => .moveEnd
  | .cueFired .. => .cueFired
  | .level .. => .level
  | .touch .. => .touch
  | .fault .. => .fault
  | .clockState .. => .clockState
  | .linkState .. => .linkState
  | .stripState .. => .stripState
  | .schedule .. => .schedule

/-- Place of a kind among the nine enables, in the order of the report codes (R196). -/
def ReportKind.index : ReportKind → Fin 9
  | .moveEnd => 0
  | .cueFired => 1
  | .level => 2
  | .touch => 3
  | .fault => 4
  | .clockState => 5
  | .linkState => 6
  | .stripState => 7
  | .schedule => 8

/-- A watch entry matches a channel when they agree in every place the mask selects (R190). -/
def Watch.matches (w : Watch) (c : ChanNo) : Bool :=
  w.inUse && (c.val &&& w.mask == w.value &&& w.mask)

/-- The channel of a LEVEL report. -/
def Report.levelChannel : Report → Option ChanNo
  | .level c _ _ => some c
  | _ => none

/-- The checks of R189: the enable of the kind and, for LEVEL, the watch filters. -/
def Port.keeps (p : Port) (r : Report) : Bool :=
  p.enables[r.kind.index] &&
    match r.levelChannel with
    | some c => p.watches.toList.any fun w => w.matches c
    | none => true

/-- Replace the first queued LEVEL report of a channel by a new one, in its place (R191, step 1). -/
def replaceLevel (c : ChanNo) (new : Report) : List Report → List Report
  | [] => []
  | r :: rs => if r.levelChannel = some c then new :: rs else r :: replaceLevel c new rs

/-- A LEVEL report of channel `c` is queued. -/
def levelQueued (c : ChanNo) (rs : List Report) : Bool :=
  rs.any fun r => r.levelChannel = some c

/-- The placing of a kept report in the queue (R191), with the REPORT_LOST flag after it. -/
def placeReport (r : Report) (rs : List Report) : List Report × Bool :=
  match r.levelChannel with
  | some c =>
    if levelQueued c rs then (replaceLevel c r rs, false)
    else appendReport r rs
  | none => appendReport r rs
where
  /-- Steps 2 to 4 of R191. -/
  appendReport (r : Report) (rs : List Report) : List Report × Bool :=
    if rs.length < Config.maxReports then (rs ++ [r], false)
    else if rs.any fun q => q.levelChannel.isSome then
      (rs.eraseP (fun q => q.levelChannel.isSome) ++ [r], false)
    else (rs, true)

/-- The port after a report is offered to it (R189, R191). -/
def Port.offer (p : Port) (r : Report) : Port :=
  if p.keeps r then
    { p with reports := (placeReport r p.reports).1
             flags := { p.flags with reportLost := p.flags.reportLost || (placeReport r p.reports).2 } }
  else p

/-- A block offers a report to the Control Port. -/
def State.offer (s : State) (r : Report) : State :=
  { s with port := s.port.offer r }

/-! ## Rounding -/

/-- The quotient rounded to the nearest integer, halves up (spec/00_scope.md 3.2), for a positive divisor. -/
def roundHalfUp (num : Int) (den : Int) : Int := (2 * num + den) / (2 * den)

/-- The value `num / den` of the way from `a` to `b`, rounded to the nearest step with a half rounded toward `b` (R34, R81). -/
def between (a b : Position) (num den : Nat) : Position :=
  let up := (2 * (b.val - a.val) * num + den) / (2 * den)
  let down := (2 * (a.val - b.val) * num + den) / (2 * den)
  let v := if a ≤ b then a.val + up else a.val - down
  if h : v < 1024 then ⟨v, h⟩ else b

/-- A whole number clamped into the positions from `lo` to 1023. -/
def clampPosition (lo : Nat) (hlo : lo < 1024) (v : Int) : Position :=
  if v < lo then ⟨lo, hlo⟩
  else if h : v.toNat < 1024 then ⟨v.toNat, h⟩
  else 1023

/-- A whole number clamped into the range of a trim (R30). -/
def clampTrim (v : Int) : Trim :=
  if h : -255 ≤ v ∧ v ≤ 255 then ⟨v, h⟩
  else if v < 0 then ⟨-255, by decide⟩ else ⟨255, by decide⟩

end Sys2Proof.Machine
end

