-- ==== Sys2Proof/Machine/Flags.lean ====
section
/-! DEFINITION. The flags and conditions the manual works out from other state: SETTLED (R12), the effective mute (R7), PORT_BUSY
(R186), the conditions of the sticky flags (R194) and of the fault sources (chapter 11), and the severity of fault actions
(R178). -/

namespace Sys2Proof.Machine

/-- The output is frozen: the channel is FORCED in the mode FROZEN (R15, R36). -/
def Channel.frozen (r : Channel) : Bool := r.owner = .forced .frozen

/-- SETTLED: O equals T (R12). -/
def settledFlag (o t : Gain) : Bool := o = t

/-- The groups a channel belongs to, in ascending order (R60). -/
def groupsOf (s : State) (c : ChanNo) : List GroupNo :=
  (List.finRange 16).filter fun g => (s.group g).members.contains c

/-- The effective mute: the own mute or the master mute of a group of the channel (R7). -/
def effectiveMute (s : State) (c : ChanNo) : Bool :=
  (s.channel c).ownMute || (groupsOf s c).any fun g => (s.group g).muted

/-- The goal of M under an effective mute (R7). -/
def muteGoalOf (muted : Bool) : Int := if muted then -900 else 0

/-- PORT_BUSY: 6 or more requests wait (R186). -/
def portBusy (p : Port) : Bool := Config.portBusyFrom ≤ p.inbound.length

/-- The condition of OVERRUN (R194). -/
def overrunPresent (p : Port) : Bool := p.inbound.length = Config.maxInbound

/-- The condition of REPORT_LOST (R194). -/
def reportLostPresent (p : Port) : Bool :=
  p.reports.length = Config.maxReports && !p.reports.any fun r => r.levelChannel.isSome

/-- Strip is DISABLED, or calibrating from DISABLED (R146). -/
def Strip.motorCondition (r : Strip) : Bool :=
  match r.state with
  | .disabled => true
  | .calibrating cal => cal.disabledStart
  | _ => false

/-- The MOTOR condition (R146). -/
def motorPresent (sf : Surface) : Bool := sf.strips.toList.any Strip.motorCondition

/-- The link is UP. -/
def Link.isUp (r : Link) : Bool :=
  match r.state with
  | .up _ _ => true
  | _ => false

/-- The present condition of a fault source (spec/11_faults_and_safe_states.md 11.1). -/
def conditionPresent (s : State) : Source → Bool
  | .watchdog => false
  | .frame => false
  | .link n => !(s.link n).isUp
  | .clock => s.clock.lock = .lost
  | .motor => motorPresent s.surface
  | .overflow => false

/-- Severity of a fault action, NONE < HOLD < FREEZE < SAFE (R178). -/
def severity : Action → Nat
  | .none => 0
  | .hold => 1
  | .freeze => 2
  | .safe => 3

/-- The more severe of two actions. -/
def worst (a b : Action) : Action := if severity a < severity b then b else a

/-- The action is FREEZE or SAFE, the two that force channels (R36). -/
def forces (a : Action) : Bool := severity .freeze ≤ severity a

/-- The action is HOLD or more severe (R119). -/
def holds (a : Action) : Bool := severity .hold ≤ severity a

/-- What a source contributes to the effective action: its action while TRIPPED (R178). -/
def SourceRecord.imposed (r : SourceRecord) : Action :=
  if r.state = .tripped then r.action else .none

/-- The effective fault action worked out from the source records (R178). -/
def FaultMonitor.workedOut (m : FaultMonitor) : Action :=
  (allSources.map fun src => (m.record src).imposed).foldl worst .none

end Sys2Proof.Machine
end

