-- ==== Sys2Proof/Machine/LevelOps.lean ====
section
/-! DEFINITION. Levels (spec/01_levels_and_the_gain_law.md): the gain law, the channel gain, the mute ramp, the target gain, the
slew, and what a change of them hands on. -/

namespace Sys2Proof.Machine

/-! ## The gain law (R2) -/

/-- The segment of the gain law a position from 1 to 1023 lies in: lower breakpoint and gain, upper breakpoint and gain. -/
def lawSegment (p : Nat) : Int × Int × Int × Int :=
  if p < 64 then (1, -900, 64, -600)
  else if p < 256 then (64, -600, 256, -300)
  else if p < 512 then (256, -300, 512, -100)
  else if p < 768 then (512, -100, 768, 0)
  else (768, 0, 1023, 100)

/-- The gain law at a position from 1 to 1023, in tenths (R2). -/
def law (p : Position) : Int :=
  match lawSegment p.val with
  | (pa, ga, pb, gb) => ga + roundHalfUp ((gb - ga) * ((p.val : Int) - pa)) (pb - pa)

/-! ## Channel gain (R3 to R5) -/

/-- Some group of the channel has its master at 0 (R5). -/
def closedByMaster (s : State) (c : ChanNo) : Bool :=
  (groupsOf s c).any fun g => (s.group g).master = 0

/-- The group contribution: the sum of law(master) over the channel's groups (R3). -/
def groupContribution (s : State) (c : ChanNo) : Int :=
  ((groupsOf s c).map fun g => law (s.group g).master).sum

/-- The raw sum of R4. -/
def rawSum (s : State) (c : ChanNo) : Int :=
  law (s.channel c).pEff + (s.channel c).staticTrim + groupContribution s c

/-- The floor and the clamp of R4, with CLIP. -/
def limitGain (x : Int) : Gain × Bool :=
  if x < -900 then (.off, false) else if x ≤ 100 then (.tenths x, false) else (.tenths 100, true)

/-- G and CLIP by the three cases of R5. -/
def channelGain (s : State) (c : ChanNo) : Gain × Bool :=
  if (s.channel c).pEff = 0 then (.off, false)
  else if closedByMaster s c then (.off, false)
  else limitGain (rawSum s c)

/-! ## Mute ramp, target gain, slew -/

/-- The mute ramp step: 900 over the ramp time, rounded up (R8). A ramp time of 0 moves M all the way. -/
def muteStep (ramp : Nat) : Int := if ramp = 0 then 900 else ((900 + ramp - 1) / ramp : Nat)

/-- One ramp of M toward its goal, stopping there (R8). -/
def rampMute (step m goal : Int) : Int :=
  if m < goal then min (m + step) goal else max (m - step) goal

/-- T from G and M (R9). -/
def targetGain (g : Gain) (m : Int) : Gain :=
  match g with
  | .off => .off
  | .tenths x => if m = -900 then .off else if x + m < -900 then .off else .tenths (x + m)

/-- A gain counted as a number, OFF as -900 (R10). -/
def counted : Gain → Int
  | .off => -900
  | .tenths x => x

/-- One slew of O toward T by at most the slew limit (R10). -/
def slewOutput (slew : Nat) (o t : Gain) : Gain :=
  if o = t then o
  else
    match t with
    | .off => if counted o - slew ≤ -900 then .off else .tenths (counted o - slew)
    | .tenths x =>
      if (x - counted o).natAbs ≤ slew then .tenths x
      else if counted o < x then .tenths (counted o + slew)
      else .tenths (counted o - slew)

/-! ## What settling and a change of O hand on (R13, R14) -/

/-- The four links. -/
def allLinks : List LinkNo := List.finRange 4

/-- The LEVEL report of channel `c` is offered (R14). -/
def offerLevel (c : ChanNo) (s : State) : State :=
  s.offer (.level c (s.channel c).output (s.channel c).clip)

/-- The channel settled event goes to the links (R14). -/
def handSettled (c : ChanNo) (s : State) : State :=
  s.hand (allLinks.map fun l => .channelSettled l c (s.channel c).output)

/-- The output gain changed event goes to the links (R13). -/
def handOutput (c : ChanNo) (s : State) : State :=
  s.hand (allLinks.map fun l => .outputGainChanged l c (s.channel c).output (s.channel c).settled)

/-- A settling without a change of O: the report and the event of R14. -/
def announceSettling (c : ChanNo) (s : State) : State := handSettled c (offerLevel c s)

/-! ## The level computation at an event (R6, R7, R12) -/

/-- Write G, CLIP, M and its goal; work out T and SETTLED; hand on a settling. -/
def writeLevel (c : ChanNo) (g : Gain × Bool) (m goal : Int) (s : State) : State :=
  let r := s.channel c
  let t := targetGain g.1 m
  let s' := s.setChannel c
    { r with gain := g.1, clip := g.2, mute := m, muteGoal := goal, target := t, settled := settledFlag r.output t }
  if settledFlag r.output t && !r.settled then announceSettling c s' else s'

/-- G and T computed again as an event of R6 is taken; held over while frozen (R15). -/
def relevel (c : ChanNo) (s : State) : State :=
  let r := s.channel c
  if r.frozen then s else writeLevel c (channelGain s c) r.mute r.muteGoal s

/-- The lamp event of a change of the effective mute, while a strip holds the channel (R40). -/
def showMute (c : ChanNo) (s : State) : State :=
  let r := s.channel c
  let muted := effectiveMute s c
  if muted = r.seenMute then s
  else
    let s' := s.setChannel c { r with seenMute := muted }
    match r.strip with
    | some n => s'.hand [.lampEvent n c muted]
    | none => s'

/-- M after its goal becomes `goal`: it jumps when the ramp time is 0 (R8). -/
def muteAtGoal (ramp : Nat) (m old goal : Int) : Int :=
  if ramp = 0 ∧ old ≠ goal then goal else m

/-- The mute goal, and G too where asked, worked out again as an event of R7 is taken (R62 asks for both). -/
def remute (c : ChanNo) (withGain : Bool) (s : State) : State :=
  let s := showMute c s
  let r := s.channel c
  if r.frozen then s
  else
    let goal := muteGoalOf (effectiveMute s c)
    let g := if withGain then channelGain s c else (r.gain, r.clip)
    writeLevel c g (muteAtGoal s.levels.muteRamp r.mute r.muteGoal goal) goal s

/-- The end of a freeze: goal, G and T from the inputs now present; M and O stand (R15). -/
def thaw (c : ChanNo) (s : State) : State :=
  writeLevel c (channelGain s c) (s.channel c).mute (muteGoalOf (effectiveMute s c)) s

end Sys2Proof.Machine
end

