-- ==== Sys2Proof/Machine/ChannelOps.lean ====
section
/-! DEFINITION. Ownership of a channel (spec/02_channels_and_operator_control.md): effective position, touch and release, glides,
forcing, the answer to a starting move, and the channel's clock step (R11). -/

namespace Sys2Proof.Machine

/-- The AUTO value: 0 at P_auto 0, else P_auto plus the working trim clamped into 1 to 1023 (R22, R48). -/
def Channel.autoValue (r : Channel) : Position :=
  if r.pAuto = 0 then 0 else clampPosition 1 (by decide) ((r.pAuto.val : Int) + r.workingTrim.val)

/-- The motor target event of a changed P_eff, while a strip holds the channel (R23). -/
def handTarget (c : ChanNo) (p : Position) (s : State) : State :=
  match (s.channel c).strip with
  | some n => s.hand [.motorTarget n c p]
  | none => s

/-- The channel takes a state and an effective position: the change is handed on (R23), a freeze that ends thaws (R15). -/
def reposition (c : ChanNo) (owner : Owner) (p : Position) (s : State) : State :=
  let r := s.channel c
  let s' := s.setChannel c { r with owner := owner, pEff := p }
  let s' := if p = r.pEff then s' else handTarget c p s'
  if r.frozen && !(owner = .forced .frozen) then thaw c s'
  else if p = r.pEff then s' else relevel c s'

/-- A glide begins: from the present P_eff, or AUTO at once when the glide time is 0 (R33). -/
def startGlide (c : ChanNo) (s : State) : State :=
  let r := s.channel c
  if s.levels.glideTime = 0 then reposition c .auto r.autoValue s
  else reposition c (.glide ⟨r.pEff, 0, s.levels.glideTime⟩) r.pEff s

/-- A safe glide begins toward the safe level, or AT_SAFE at once when the glide time is 0 (R36, R37). -/
def startSafeGlide (c : ChanNo) (a : Position) (s : State) : State :=
  let r := s.channel c
  if s.levels.glideTime = 0 then reposition c (.forced .atSafe) a s
  else reposition c (.forced (.safeGlide ⟨r.pEff, 0, s.levels.glideTime⟩)) r.pEff s

/-- FORCED in the mode FROZEN at the present P_eff (R36). -/
def freeze (c : ChanNo) (s : State) : State :=
  reposition c (.forced .frozen) (s.channel c).pEff s

/-- A channel enters FORCED under FREEZE or SAFE (R36). -/
def force (c : ChanNo) (a : Action) (s : State) : State :=
  match a, (s.channel c).safeLevel with
  | .safe, some p => startSafeGlide c p s
  | _, _ => freeze c s

/-- A touch (R26, R27). -/
def touchChannel (c : ChanNo) (p : Position) (s : State) : State :=
  let r := s.channel c
  let s' := reposition c .touched p (s.setChannel c { r with pOp := p })
  if r.owner ≠ .touched ∧ r.touchPolicy = .yield then s'.hand [.channelYielded c] else s'

/-- An operator position: taken in TOUCHED alone (R28). -/
def operatorAt (c : ChanNo) (p : Position) (s : State) : State :=
  let r := s.channel c
  if r.owner = .touched then reposition c .touched p (s.setChannel c { r with pOp := p }) else s

/-- MANUAL at the release position (R31). -/
def latch (c : ChanNo) (s : State) : State :=
  reposition c .manual (s.channel c).releasePos s

/-- The learned trim of a release: P_op minus P_auto, clamped (R30). -/
def Channel.learned (r : Channel) : Trim := clampTrim ((r.pOp.val : Int) - r.pAuto.val)

/-- A release under LEARN: the trim is learned and handed, the channel enters AUTO; at P_auto 0 it latches (R30, R48). -/
def learnRelease (c : ChanNo) (s : State) : State :=
  let r := s.channel c
  if r.pAuto = 0 then latch c s
  else
    let r' := { r with workingTrim := r.learned }
    (reposition c .auto r'.autoValue (s.setChannel c r')).hand [.learn c r.learned]

/-- A release at a TOUCHED channel, first by the action in force, then by the release mode; the reset mark makes it
RETURN (R29, R46, R159). -/
def releaseChannel (c : ChanNo) (reset : Bool) (s : State) : State :=
  let r := s.channel c
  if r.owner = .touched then
    let s' := s.setChannel c { r with releasePos := r.pOp }
    if forces r.applied then force c r.applied s'
    else
      match (if reset then .ret else r.releaseMode) with
      | .ret => startGlide c s'
      | .learn => learnRelease c s'
      | .latch => latch c s'
  else s

/-- An effective action changed event at a FORCED channel (R37, R38). -/
def forcedUnder (c : ChanNo) (m : Forced) (a : Action) (s : State) : State :=
  match a with
  | .none => startGlide c s
  | .hold => startGlide c s
  | .freeze => freeze c s
  | .safe =>
    match m, (s.channel c).safeLevel with
    | .frozen, some p => startSafeGlide c p s
    | _, _ => s

/-- An effective action changed event at a channel (R21, R36 to R38). -/
def actionAtChannel (c : ChanNo) (a : Action) (s : State) : State :=
  let r := s.channel c
  if a = r.applied then s
  else
    let s' := s.setChannel c { r with applied := a }
    match r.owner with
    | .touched => s'
    | .forced m => forcedUnder c m a s'
    | _ => if forces a then force c a s' else s'

/-- P_auto written by the automation; in AUTO it moves P_eff (R24). -/
def automationAt (c : ChanNo) (p : Position) (s : State) : State :=
  let r := { s.channel c with pAuto := p }
  let s' := s.setChannel c r
  if r.owner = .auto then reposition c .auto r.autoValue s' else s'

/-- A Current trim changed event (R25, R48). -/
def workingTrimAt (c : ChanNo) (t : Trim) (s : State) : State :=
  let r := s.channel c
  if t = r.workingTrim then s
  else
    let r' := { r with workingTrim := t }
    let s' := s.setChannel c r'
    if r.owner = .auto then reposition c .auto r'.autoValue s' else s'

/-- A MANUAL channel is taken over by a starting move: P_auto from the release position, then AUTO (R32). -/
def takeOverManual (c : ChanNo) (s : State) : State :=
  let r := s.channel c
  let p := clampPosition 0 (by decide) ((r.releasePos.val : Int) - r.workingTrim.val)
  let r' := { r with pAuto := p }
  reposition c .auto r'.autoValue (s.setChannel c r')

/-- The channel's answer to a move starting event: its start position, or none for a yield (R32). -/
def answerStart (c : ChanNo) (s : State) : Option Position × State :=
  let r := s.channel c
  match r.owner with
  | .touched => (if r.touchPolicy = .yield then none else some r.pAuto, s)
  | .manual =>
    let s' := takeOverManual c s
    (some (s'.channel c).pAuto, s')
  | _ => (some r.pAuto, s)

/-- CHAN_SET at a SAFED channel (R41). -/
def directSet (c : ChanNo) (p : Position) (s : State) : State :=
  automationAt c p (if (s.channel c).owner = .manual then takeOverManual c s else s)

/-- The own mute set; a value it already holds is no change (R40). -/
def setOwnMute (c : ChanNo) (on : Bool) (s : State) : State :=
  let r := s.channel c
  if on = r.ownMute then s else remute c false (s.setChannel c { r with ownMute := on })

/-- Static trim written by CHAN_CONFIG (R6, R42). -/
def writeStaticTrim (c : ChanNo) (x : Int) (s : State) : State :=
  let r := s.channel c
  if x = r.staticTrim then s else relevel c (s.setChannel c { r with staticTrim := x })

/-- The effect of a written safe level on a channel in the state `o`, `applied` being the action last taken at it (R37). -/
def safeLevelEffect (c : ChanNo) (applied : Action) (o : Owner) (a : Option Position) (s : State) : State :=
  match applied, o, a with
  | .safe, .forced .frozen, some p => startSafeGlide c p s
  | .safe, .forced .atSafe, some p => startSafeGlide c p s
  | .safe, .forced (.safeGlide _), none => freeze c s
  | .safe, .forced .atSafe, none => freeze c s
  | _, _, _ => s

/-- Safe level written by CHAN_CONFIG, with its effect on a channel forced under SAFE (R37, R42). The effective action that R37
asks for here is read as the channel's applied action, not as the one the Fault Monitor holds while its event is still in flight
(DESIGN CHOICE, log 41). -/
def writeSafeLevel (c : ChanNo) (a : Option Position) (s : State) : State :=
  let r := s.channel c
  if a = r.safeLevel then s else safeLevelEffect c r.applied r.owner a (s.setChannel c { r with safeLevel := a })

/-- SAFED written by CHAN_CONFIG: setting it anew hands the channel made safe event (R39, R42). -/
def writeSafed (c : ChanNo) (on : Bool) (s : State) : State :=
  let r := s.channel c
  let s' := s.setChannel c { r with safed := on }
  if on && !r.safed then s'.hand [.channelMadeSafe c] else s'

/-- A strip assigned event: the channel answers with its motor target and its lamp (R44, R40). -/
def assignStrip (c : ChanNo) (n : StripNo) (s : State) : State :=
  let muted := effectiveMute s c
  let r := { s.channel c with strip := some n, seenMute := muted }
  (s.setChannel c r).hand [.motorTarget n c r.pEff, .lampEvent n c muted]

/-- A strip released event (R44). -/
def releaseStrip (c : ChanNo) (n : StripNo) (s : State) : State :=
  let r := s.channel c
  if r.strip = some n then s.setChannel c { r with strip := none } else s

/-! ## The channel's clock step (R11) -/

/-- The next value of a glide toward `a` (R34). -/
def Glide.next (g : Glide) (a : Position) : Glide × Position :=
  ({ g with progress := g.progress + 1 }, between g.origin a (min (g.progress + 1) g.length) g.length)

/-- Stage 1: the state and P_eff after a glide or a safe glide advances, `none` when none runs (R34). -/
def glideStage (r : Channel) : Option (Owner × Position) :=
  match r.owner with
  | .glide g =>
    let a := r.autoValue
    if g.length ≤ g.progress + 1 then some (.auto, a) else some (.glide (g.next a).1, (g.next a).2)
  | .forced (.safeGlide g) =>
    let a := r.safeLevel.getD r.pEff
    if g.length ≤ g.progress + 1 then some (.forced .atSafe, a)
    else some (.forced (.safeGlide (g.next a).1), (g.next a).2)
  | _ => none

/-- Stage 1 in the state: P_eff, its motor target, and G and CLIP from it. -/
def glideAdvance (c : ChanNo) (s : State) : State :=
  match glideStage (s.channel c) with
  | none => s
  | some (owner, p) =>
    let r := s.channel c
    let s' := s.setChannel c { r with owner := owner, pEff := p }
    let s' := if p = r.pEff then s' else handTarget c p s'
    let g := channelGain s' c
    s'.setChannel c { s'.channel c with gain := g.1, clip := g.2 }

/-- Stages 2 to 4: M ramps, T follows, O slews, SETTLED is brought up to date. -/
def levelStages (levels : Levels) (r : Channel) : Channel :=
  let m := rampMute (muteStep levels.muteRamp) r.mute r.muteGoal
  let t := targetGain r.gain m
  let o := slewOutput levels.slew r.output t
  { r with mute := m, target := t, output := o, settled := settledFlag o t }

/-- What a clock step hands on: a change of O, and a settling (R12 to R14; DEDUCED, log 11). -/
def handStep (c : ChanNo) (old : Channel) (s : State) : State :=
  let r := s.channel c
  let moved := r.output ≠ old.output
  let s := if moved then handOutput c s else s
  if r.settled && (moved || !old.settled) then
    let s := offerLevel c s
    if moved then s else handSettled c s
  else s

/-- A clock step at a channel whose output is not frozen (R11); a frozen one takes none (R15). -/
def channelStep (c : ChanNo) (s : State) : State :=
  let old := s.channel c
  if old.frozen then s
  else
    let s := glideAdvance c s
    handStep c old (s.setChannel c (levelStages s.levels (s.channel c)))

end Sys2Proof.Machine
end

