-- ==== Sys2Proof/Machine/SurfaceOps.lean ====
section
/-! DEFINITION. The Surface Controller (spec/09_the_fader_surface.md): positions, touches, motors, the assignment pass,
calibration and the scan of a strip. -/

namespace Sys2Proof.Machine

/-- The strips, in ascending order. -/
def allStrips : List StripNo := List.finRange 24

/-- The strip lies in the scan range (R140). -/
def SurfaceSettings.inRange (x : SurfaceSettings) (n : StripNo) : Bool := x.start ≤ n.val && n.val ≤ x.stop

/-- The converted position of a raw value (R141). -/
def Strip.convert (r : Strip) (raw : Nat) : Position :=
  clampPosition 0 (by decide) (roundHalfUp (((raw : Int) - r.low) * 1023) ((r.high : Int) - r.low) + r.fine)

/-- Distance of two positions, in steps. -/
def distance (a b : Position) : Nat := ((a.val : Int) - b.val).natAbs

/-- The reported position after a converted one (R142). -/
def nextReported (hysteresis : Nat) (reported converted : Position) : Position :=
  if hysteresis ≤ distance converted reported ∨ converted = 0 ∨ converted = 1023 then converted else reported

/-- The touch reading after a touch count (R143). -/
def touchReading (x : SurfaceSettings) (old : Bool) (count : Nat) : Bool :=
  if x.touch ≤ count then true else if count ≤ x.release then false else old

/-- The fader stands within 4 steps of the motor target (R144, R146). -/
def Strip.arrived (r : Strip) : Bool :=
  match r.target with
  | some t => distance r.converted t ≤ Config.arrival
  | none => false

/-- Where a strip that holds a channel goes as a hand or a calibration leaves it (R144, R152). -/
def Strip.driven (r : Strip) : StripState := if r.arrived then .tracking 0 else .seeking 0

/-- The strip is TOUCHED. -/
def Strip.isTouched (r : Strip) : Bool :=
  match r.state with
  | .touched _ => true
  | _ => false

/-- The names of the strip states, in the order of R139. -/
def StripState.code : StripState → StateCode
  | .absent => 0
  | .calibrating _ => 1
  | .unmapped => 2
  | .seeking _ => 3
  | .tracking _ => 4
  | .touched _ => 5
  | .disabled => 6

/-- The STRIP_STATE report of strip `n` after a change from `old` (R156). -/
def reportStrip (n : StripNo) (old : StripState) (s : State) : State :=
  let r := s.strip n
  s.offer (.stripState n old.code r.state.code r.channel r.result)

/-- The TOUCH report of strip `n` (R156). -/
def reportTouch (n : StripNo) (released implied : Bool) (s : State) : State :=
  let r := s.strip n
  s.offer (.touch n r.channel released implied r.reported)

/-- The MOTOR good event as a strip has left DISABLED and none meets the condition (R146). -/
def motorGood (s : State) : State := if motorPresent s.surface then s else s.hand [.goodEvent .motor]

/-- How the strip's motor is driven (R143, R146, R152 to R155). The drive is read off the record, so that it changes with the
state and the target, not at the next scan only (DEDUCED, log 32). -/
def Strip.drive (r : Strip) : Drive :=
  match r.state, r.target with
  | .seeking _, some p => .toward p
  | .tracking _, some p => .hold p
  | .calibrating cal, _ =>
    match cal.phase with
    | .bottomDrive => .down
    | .topDrive => .up
    | _ => .off
  | _, _ => .off

/-! ## The assignment pass (R148) -/

/-- A strip's due channel: its entry in the active bank (R148). -/
def dueChannel (s : State) (n : StripNo) : Option ChanNo := s.surface.banks[s.surface.activeBank][n]

/-- Some strip holds the channel. -/
def heldByStrip (s : State) (c : ChanNo) : Bool := allStrips.any fun n => (s.strip n).channel = some c

/-- The strip takes part in the pass: in range and not TOUCHED. -/
def inPass (s : State) (n : StripNo) : Bool := s.surface.settings.inRange n && !(s.strip n).isTouched

/-- The strip's record after it gives up its channel (R148, R151). -/
def Strip.without (r : Strip) : Strip :=
  { r with
    channel := none
    target := none
    lamp := false
    state := match r.state with
      | .seeking _ => .unmapped
      | .tracking _ => .unmapped
      | st => st }

/-- Step 1 of the pass at a strip: it gives up a channel it is not due. -/
def giveUp (n : StripNo) (s : State) : State :=
  match (s.strip n).channel with
  | some c =>
    if inPass s n && dueChannel s n ≠ some c then (s.setStrip n (s.strip n).without).hand [.stripReleased c n] else s
  | none => s

/-- Step 2 of the pass at a strip: it takes its due channel when no strip holds it. -/
def takeDue (n : StripNo) (s : State) : State :=
  match dueChannel s n with
  | some c =>
    if inPass s n && (s.strip n).channel.isNone && !heldByStrip s c then
      let r := s.strip n
      let st : StripState := if r.state = .unmapped then .seeking 0 else r.state
      (s.setStrip n { r with channel := some c, state := st }).hand [.stripAssigned c n]
    else s
  | none => s

/-- The assignment pass. -/
def assignmentPass (s : State) : State :=
  allStrips.foldl (fun s n => takeDue n s) (allStrips.foldl (fun s n => giveUp n s) s)

/-! ## Touch and release -/

/-- A touch is declared, with the still time 0 when it is implied (R143, R147). -/
def declareTouch (n : StripNo) (implied : Bool) (s : State) : State :=
  let r := s.strip n
  let s := s.setStrip n { r with state := .touched (if implied then some 0 else none) }
  let s := match r.channel with
    | some c => s.hand [.touchEvent c n r.reported]
    | none => s
  reportTouch n false implied s

/-- A release is declared: the event, the report, the state, then the pass (R144). -/
def declareRelease (n : StripNo) (implied : Bool) (s : State) : State :=
  let r := s.strip n
  let s := match r.channel with
    | some c => s.hand [.releaseEvent c n false]
    | none => s
  let s := reportTouch n true implied s
  assignmentPass (s.setStrip n { s.strip n with state := r.driven })

/-! ## Calibration (R152, R153) -/

/-- A strip leaves CALIBRATING: driven if it holds a channel, else UNMAPPED and the pass. A result is reported. -/
def leaveCalibration (n : StripNo) (reported : Bool) (s : State) : State :=
  let r := s.strip n
  let st : StripState := if r.channel.isSome then r.driven else .unmapped
  let s := s.setStrip n { r with state := st }
  let s := if reported then reportStrip n r.state s else s
  if r.channel.isSome then s else assignmentPass s

/-- A calibration ends with a result other than CAL_ABORTED (R152). -/
def endCalibration (n : StripNo) (cal : Calibration) (res : CalResult) (s : State) : State :=
  let s := s.setStrip n { s.strip n with result := some res, timeouts := 0 }
  if cal.disabledStart then
    if res = .ok then motorGood (leaveCalibration n true s)
    else reportStrip n (.calibrating cal) (s.setStrip n { s.strip n with state := .disabled })
  else leaveCalibration n true s

/-- A touch aborts a calibration (R153). -/
def abortCalibration (n : StripNo) (cal : Calibration) (s : State) : State :=
  let st : StripState := if cal.disabledStart then .disabled else .calibrating { phase := .waitRelease }
  reportStrip n (.calibrating cal)
    (s.setStrip n { s.strip n with result := some .aborted, timeouts := 0, state := st })

/-- The raw values held pass a drive phase's test (R152). -/
def driveSettled (cal : Calibration) : Bool :=
  Config.driveWindow ≤ cal.scans && cal.raws.foldl max 0 - cal.raws.foldl min 4095 ≤ Config.driveSpread

/-- The calibration with one more scan counted (R152). -/
def Calibration.counted (cal : Calibration) (raw : Nat) : Calibration :=
  { cal with
    total := cal.total + 1
    scans := cal.scans + 1
    raws := (cal.raws ++ [raw]).drop (cal.raws.length + 1 - Config.driveWindow) }

/-- The calibration in another phase (R152). -/
def Calibration.enter (cal : Calibration) (p : CalPhase) : Calibration := { cal with phase := p, scans := 0, raws := [] }

/-- The phase after a counted scan; `none` when TOP_SETTLE ends and the check is made (R152). -/
def Calibration.advance (cal : Calibration) (raw : Nat) : Option Calibration :=
  match cal.phase with
  | .bottomDrive => some (if driveSettled cal then cal.enter .bottomSettle else cal)
  | .bottomSettle =>
    some (if Config.settleScans ≤ cal.scans then { cal.enter .topDrive with newLow := raw } else cal)
  | .topDrive => some (if driveSettled cal then cal.enter .topSettle else cal)
  | .topSettle => if Config.settleScans ≤ cal.scans then none else some cal
  | .waitRelease => some cal

/-- The check of a calibration (R152). -/
def checkCalibration (n : StripNo) (cal : Calibration) (raw : Nat) (s : State) : State :=
  if cal.newLow + Config.minTravel ≤ raw then
    endCalibration n cal .ok (s.setStrip n { s.strip n with low := cal.newLow, high := raw })
  else endCalibration n cal .fail s

/-- Stage 3 of a scan of a CALIBRATING strip (R152). In WAIT_RELEASE nothing is counted and no raw value is held (R153; DESIGN
CHOICE, log 43). -/
def calibrationScan (n : StripNo) (cal : Calibration) (raw : Nat) (s : State) : State :=
  if cal.phase = .waitRelease then s
  else
    match (cal.counted raw).advance raw with
    | none => checkCalibration n (cal.counted raw) raw s
    | some cal' =>
      let s := s.setStrip n { s.strip n with state := .calibrating cal' }
      if Config.calibrationScans ≤ cal'.total then endCalibration n cal' .timeout s else s

/-- A calibration starts on a strip (R152, R154). -/
def startCalibration (n : StripNo) (s : State) : State :=
  let r := s.strip n
  s.setStrip n { r with state := .calibrating { disabledStart := r.state = .disabled } }

/-! ## The scan (R141) -/

/-- Stage 1: raw, converted and reported position (R141, R142). -/
def scanPosition (n : StripNo) (raw : Nat) (s : State) : State :=
  let r := s.strip n
  let conv := r.convert raw
  let rep := nextReported s.surface.settings.hysteresis r.reported conv
  let s := s.setStrip n { r with raw := raw, converted := conv, reported := rep }
  match r.channel with
  | some c => if r.isTouched && rep ≠ r.reported then s.hand [.operatorPosition c n rep] else s
  | none => s

/-- The record with the touch reading and the runs of this scan (R143). -/
def Strip.sensed (r : Strip) (x : SurfaceSettings) (count : Nat) : Strip :=
  let on := touchReading x r.reading count
  match r.state with
  | .unmapped => { r with reading := on, onRun := 0, offRun := 0 }
  | .disabled => { r with reading := on, onRun := 0, offRun := 0 }
  | _ =>
    if on then { r with reading := on, onRun := min (r.onRun + 1) x.debounce, offRun := 0 }
    else { r with reading := on, onRun := 0, offRun := min (r.offRun + 1) x.debounce }

/-- Stage 2: the touch reading, and a touch, a release or an abort declared (R143, R144, R153). -/
def scanTouch (n : StripNo) (count : Nat) (s : State) : State :=
  let x := s.surface.settings
  let r := (s.strip n).sensed x count
  let s := s.setStrip n r
  let touched := r.reading && x.debounce ≤ r.onRun
  let released := !r.reading && x.debounce ≤ r.offRun
  match r.state with
  | .seeking _ => if touched then declareTouch n false s else s
  | .tracking _ => if touched then declareTouch n false s else s
  | .touched none => if released then declareRelease n false s else s
  | .touched (some _) => if touched then s.setStrip n { r with state := .touched none } else s
  | .calibrating cal =>
    if cal.phase = .waitRelease then if released then leaveCalibration n false s else s
    else if touched then abortCalibration n cal s else s
  | _ => s

/-- A seek that has not arrived at this scan (R146). -/
def seekOn (n : StripNo) (time : Nat) (s : State) : State :=
  let r := s.strip n
  if time + 1 < Config.seekScans then s.setStrip n { r with state := .seeking (time + 1) }
  else if r.timeouts + 1 < Config.seekTimeouts then
    s.setStrip n { r with state := .seeking 0, timeouts := r.timeouts + 1 }
  else
    reportStrip n r.state
      ((s.setStrip n { r with state := .disabled, timeouts := Config.seekTimeouts }).hand [.occurrence .motor])

/-- Drift at a scan of a TRACKING strip (R147). -/
def driftOn (n : StripNo) (drift : Nat) (t : Position) (s : State) : State :=
  let r := s.strip n
  if distance r.converted t ≤ s.surface.settings.drift then s.setStrip n { r with state := .tracking 0 }
  else if drift + 1 < Config.driftScans then s.setStrip n { r with state := .tracking (drift + 1) }
  else declareTouch n true s

/-- Stage 3: seek, drift, implied release and calibration (R146, R147, R152). `moved`: stage 1 changed the reported position. -/
def scanMotor (n : StripNo) (raw : Nat) (moved : Bool) (s : State) : State :=
  let r := s.strip n
  match r.state with
  | .seeking time =>
    match r.target with
    | none => s
    | some _ =>
      if r.arrived then s.setStrip n { r with state := .tracking 0, timeouts := 0 } else seekOn n time s
  | .tracking drift =>
    match r.target with
    | none => s
    | some t => driftOn n drift t s
  | .touched (some still) =>
    if moved then s.setStrip n { r with state := .touched (some 0) }
    else if still + 1 < Config.stillScans then s.setStrip n { r with state := .touched (some (still + 1)) }
    else declareRelease n true s
  | .calibrating cal => calibrationScan n cal raw s
  | _ => s

/-- The strip is scanned: it lies in the scan range (R140, R141). -/
def scanned (s : State) (n : StripNo) : Bool := s.surface.settings.inRange n && !(s.strip n).state = .absent

/-- A scan's readings stand on the surface bus, and one scan fewer is owed (R141; log 31). -/
def readBus (n : StripNo) (raw : Fin 4096) (count : Byte) (s : State) : State :=
  let s := { s with surface := { s.surface with bus := s.surface.bus.set n { raw := raw, touch := count } } }
  s.setStrip n { s.strip n with owed := (s.strip n).owed - 1 }

/-- A scan of a strip; one outside the scan range is not scanned (R140, R141). -/
def scanStrip (n : StripNo) (raw : Fin 4096) (count : Byte) (s : State) : State :=
  if scanned s n then
    let s' := scanPosition n raw.val (readBus n raw count s)
    let moved := (s'.strip n).reported ≠ (s.strip n).reported
    scanMotor n raw.val moved (scanTouch n count.toNat s')
  else s

/-- A clock step, carrying a show time, taken at the Surface Controller: every second one makes a scan due at each strip in the
scan range, whatever the show time (R130, R141). -/
def surfaceStep (_showTime : Nat) (s : State) : State :=
  let owing (n : StripNo) : Strip :=
    if s.surface.settings.inRange n then { s.strip n with owed := (s.strip n).owed + 1 } else s.strip n
  if s.surface.halfStep then { s with surface := { s.surface with strips := Vector.ofFn owing, halfStep := false } }
  else { s with surface := { s.surface with halfStep := true } }

/-- The lowest strip of which a scan is due, with the readings that stand on the bus (log 31). -/
def scanDue (s : State) : Option Instr :=
  (allStrips.find? fun n => scanned s n && 0 < (s.strip n).owed).map fun n =>
    .scan n s.surface.bus[n].raw s.surface.bus[n].touch

/-! ## Motor targets, lamps, banks and the scan range -/

/-- A motor target event (R145). -/
def motorTargetAt (n : StripNo) (c : ChanNo) (p : Position) (s : State) : State :=
  let r := s.strip n
  if r.channel = some c then
    let st : StripState := match r.state with
      | .tracking d => if distance r.converted p ≤ Config.arrival then .tracking d else .seeking 0
      | st => st
    s.setStrip n { r with target := some p, state := st }
  else s

/-- A lamp event (R151). -/
def lampAt (n : StripNo) (c : ChanNo) (lit : Bool) (s : State) : State :=
  let r := s.strip n
  if r.channel = some c then s.setStrip n { r with lamp := lit } else s

/-- A bank becomes active and the pass runs (R150). -/
def selectBank (b : BankNo) (s : State) : State :=
  assignmentPass { s with surface := { s.surface with activeBank := b } }

/-- The release of a TOUCHED strip that leaves the range (R155). -/
def releaseLeaving (n : StripNo) (s : State) : State :=
  let r := s.strip n
  match r.state, r.channel with
  | .touched still, some c => reportTouch n true still.isSome (s.hand [.releaseEvent c n false])
  | _, _ => s

/-- A strip leaves the scan range (R155). -/
def leaveRange (n : StripNo) (s : State) : State :=
  let r := s.strip n
  let s := releaseLeaving n s
  let s := match r.channel with
    | some c => s.hand [.stripReleased c n]
    | none => s
  let s := reportStrip n r.state
    (s.setStrip n { r with state := .absent, channel := none, target := none, lamp := false, owed := 0 })
  if r.motorCondition then motorGood s else s

/-- A strip enters the scan range (R155). -/
def enterRange (n : StripNo) (s : State) : State :=
  let r := s.strip n
  reportStrip n r.state (s.setStrip n { r with state := .calibrating {} })

/-- A strip as the scan range changes from `old` to the one in force (R155). -/
def rangeChangeAt (old : SurfaceSettings) (s : State) (n : StripNo) : State :=
  match old.inRange n, s.surface.settings.inRange n with
  | true, false => leaveRange n s
  | false, true => enterRange n s
  | _, _ => s

/-- Surface settings written, with a change of scan range acted on (R155). -/
def writeSettings (x : SurfaceSettings) (s : State) : State :=
  let old := s.surface.settings
  let s := { s with surface := { s.surface with settings := x } }
  if old.start = x.start ∧ old.stop = x.stop then s
  else assignmentPass (allStrips.foldl (rangeChangeAt old) s)

end Sys2Proof.Machine
end

