-- ==== Sys2Proof/Machine/ClockOps.lean ====
section
/-! DEFINITION. The Show Clock (spec/08_show_clock.md): the internal time base, the pace of the clock steps, the measuring of
the reference and the lock states. -/

namespace Sys2Proof.Machine

/-- The names of the lock states, in the order of R129. -/
def LockState.code : LockState → StateCode
  | .free => 0
  | .acquiring _ => 1
  | .locked _ => 2
  | .holdover _ => 3
  | .lost => 4

/-- Lowest and highest accepted period of a reference rate, and its silence limit, in µs (R129). -/
def referenceTable (rate : Nat) : Nat × Nat × Nat :=
  if rate = 24 then (40834, 42500, 83333)
  else if rate = 25 then (39200, 40800, 80000)
  else (32667, 34000, 66667)

/-- The period lies within the accepted periods. -/
def acceptedPeriod (rate p : Nat) : Bool := (referenceTable rate).1 ≤ p && p ≤ (referenceTable rate).2.1

/-- The silence limit of a rate. -/
def limitOfSilence (rate : Nat) : Nat := (referenceTable rate).2.2

/-- The rate offset worked out from a history of periods (R132), the nominal period being 1 000 000 over the rate. -/
def offsetOf (rate : Nat) (history : List Nat) : Int :=
  roundHalfUp (1000000000000 * (history.length : Int) - 1000000 * (rate * history.sum : Nat)) (rate * history.sum : Nat)

/-- The history with one more period, the oldest of nine removed (R132). -/
def extendHistory (h : List Nat) (p : Nat) : List Nat := (h ++ [p]).drop (h.length + 1 - Config.lockPeriods)

/-- The clock record written. -/
def State.setClock (s : State) (k : Clock) : State := { s with clock := k }

/-- The show time once every step whose interval has ended is counted, up to its limit (R130, R131). A step whose interval ends at
the very microsecond of a change counts as before it (DESIGN CHOICE, log 42). -/
def Clock.reached (k : Clock) : Nat := min (k.showTime + k.due) Config.maxShowTime

/-- The CLOCK_STATE report of a change of lock state, with the show time reached as the change is taken (R137). ACQUIRING entered
anew from ACQUIRING is no change of it (DESIGN CHOICE, log 39). -/
def reportClock (old : LockState) (s : State) : State :=
  let k := s.clock
  if old.code = k.lock.code then s else s.offer (.clockState old.code k.lock.code k.source k.rate k.reached k.rho)

/-- FREE as CLOCK_CONFIG selects INTERNAL (R135). -/
def Clock.toFree (k : Clock) : Clock := { k with lock := .free, rho := 0, history := [], mark := none }

/-- ACQUIRING as it is entered (R133). -/
def Clock.toAcquiring (k : Clock) : Clock := { k with lock := .acquiring 0, rho := 0, history := [], mark := none }

/-- LOST as it is entered (R134). -/
def Clock.toLost (k : Clock) : Clock := { k with lock := .lost, rho := 0, history := [], mark := none }

/-- LOCKED with one more accepted period: silence 0, and ρ worked out (R132 to R134). -/
def Clock.toLocked (k : Clock) (p : Nat) : Clock :=
  let h := extendHistory k.history p
  { k with lock := .locked 0, history := h, rho := offsetOf k.rate h }

/-! ## The internal time base (R131, R134; log 8 and log 27) -/

/-- Progress that one microsecond makes at a rate offset, in units of which 10⁹ are a step interval (R131). -/
def speedAt (rho : Int) : Nat := (1000000 + rho).toNat

/-- The microseconds to the end of the running step interval, the first at which it is over (R131). -/
def Clock.toStep (k : Clock) : Nat := (1000000000 - k.carry + speedAt k.pace - 1) / speedAt k.pace

/-- `dt` µs pass for the pace of the steps, the rate offset in force standing: the running interval ends at its own pace, and the
intervals that follow run at the rate offset in force. The fraction is carried on (R131). -/
def Clock.run (dt : Nat) (k : Clock) : Clock :=
  let m := { k with now := k.now + dt }
  if k.carry + dt * speedAt k.pace < 1000000000 then { m with carry := k.carry + dt * speedAt k.pace }
  else
    let rest := k.carry + k.toStep * speedAt k.pace - 1000000000 + (dt - k.toStep) * speedAt k.rho
    { m with carry := rest % 1000000000, due := k.due + 1 + rest / 1000000000, pace := k.rho }

/-- LOST is entered (R134). -/
def enterLost (s : State) : State :=
  reportClock s.clock.lock ((s.setClock s.clock.toLost).hand [.occurrence .clock])

/-- HOLDOVER is entered (R134). -/
def enterHoldover (s : State) : State :=
  reportClock s.clock.lock (s.setClock { s.clock with lock := .holdover 0 })

/-- The pace of the steps runs on for `dt` µs. -/
def runClock (dt : Nat) (s : State) : State := s.setClock (s.clock.run dt)

/-- `dt` µs pass and the lock state at their end is `lock`, no limit passed in them. -/
def runTo (lock : LockState) (dt : Nat) (s : State) : State := s.setClock { s.clock.run dt with lock := lock }

/-- `dt` µs pass in HOLDOVER: where they go beyond its 2 000 ms, LOST is entered at their end, and what is left runs at the rate
offset of LOST (R134, R131; log 27). -/
def passHoldover (elapsed dt : Nat) (s : State) : State :=
  let left := Config.holdoverLimit - elapsed
  if left < dt then runClock (dt - left) (enterLost (runClock left s)) else runTo (.holdover (elapsed + dt)) dt s

/-- `dt` µs pass in LOCKED: where they take the silence past its limit, HOLDOVER is entered at that limit (R134; log 27). -/
def passLocked (silence dt : Nat) (s : State) : State :=
  let left := limitOfSilence s.clock.rate - silence
  if left < dt then passHoldover 0 (dt - left) (enterHoldover (runClock left s)) else runTo (.locked (silence + dt)) dt s

/-- `dt` µs of the internal time base pass, each change of lock state taken at its own moment in them (R131, R134). -/
def passTime (dt : Nat) (s : State) : State :=
  match s.clock.lock with
  | .locked silence => passLocked silence dt s
  | .holdover elapsed => passHoldover elapsed dt s
  | _ => runClock dt s

/-! ## Clock steps (R130) -/

/-- The show time one step later; it stays at its limit (R130). -/
def nextShowTime (t : Nat) : Nat := min (t + 1) Config.maxShowTime

/-- The events of a clock step at the blocks that keep time, in one order of those R130 leaves free (log 5). The Surface
Controller, whose clock step has no row of its own, takes it in `showClockStep`. -/
def stepEvents (showTime : Nat) : List Instr :=
  (allChannels.map fun c => .channelClockStep c showTime) ++ [.moveEngineClockStep showTime, .sequencerClockStep showTime] ++
    (allLinks.map fun l => .linkClockStep l showTime) ++ [.portClockStep showTime]

/-- A clock step at the Show Clock: one that is due comes at once, else the running interval ends first. The Surface Controller
takes the step, and it is handed to the other blocks (R130, R131, R141). -/
def showClockStep (s : State) : State :=
  let s := if s.clock.due = 0 then passTime s.clock.toStep s else s
  let t := nextShowTime s.clock.showTime
  (surfaceStep t (s.setClock { s.clock with due := s.clock.due - 1, showTime := t })).hand (stepEvents t)

/-- A clock step whose interval has ended (R131; log 2). -/
def stepDue (s : State) : Option Instr := if s.clock.due = 0 then none else some .clockStep

/-! ## Reference pulses (R132 to R134) -/

/-- LOCKED is entered with an accepted period: the good event and the report (R133, R134). -/
def lockClock (p : Nat) (s : State) : State :=
  let old := s.clock.lock
  reportClock old ((s.setClock (s.clock.toLocked p)).hand [.goodEvent .clock])

/-- An accepted period (R132 to R134). -/
def acceptPeriod (p : Nat) (s : State) : State :=
  match s.clock.lock with
  | .acquiring n =>
    if Config.lockPeriods ≤ n + 1 then lockClock p s
    else s.setClock { s.clock with lock := .acquiring (n + 1), history := extendHistory s.clock.history p }
  | .locked _ => s.setClock (s.clock.toLocked p)
  | .holdover _ => lockClock p s
  | _ => s

/-- A rejected period (R133, R134). -/
def rejectPeriod (s : State) : State :=
  match s.clock.lock with
  | .acquiring _ => s.setClock { s.clock with lock := .acquiring 0, history := [] }
  | _ => s

/-- A reference pulse at the present internal time (R132 to R134). -/
def pulse (s : State) : State :=
  let k := s.clock
  match k.lock, k.mark with
  | .lost, _ => reportClock .lost (s.setClock { k.toAcquiring with mark := some k.now })
  | _, none => s.setClock { k with mark := some k.now }
  | _, some m =>
    let s := s.setClock { k with mark := some k.now }
    if acceptedPeriod k.rate (k.now - m) then acceptPeriod (k.now - m) s else rejectPeriod s

/-- A reference pulse at an internal time, not taken under INTERNAL (R132). -/
def referencePulseAt (time : Nat) (s : State) : State :=
  if s.clock.source = .external then pulse (passTime (time - s.clock.now) s) else s

/-- The silence passes its limit now: time runs on to it (R134). -/
def silenceLimitAt (s : State) : State :=
  match s.clock.lock with
  | .locked silence => enterHoldover (passTime (limitOfSilence s.clock.rate - silence) s)
  | _ => s

/-- The 2 000 ms of holdover end now: time runs on to it (R134). -/
def holdoverExpiryAt (s : State) : State :=
  match s.clock.lock with
  | .holdover elapsed => enterLost (passTime (Config.holdoverLimit - elapsed) s)
  | _ => s

/-! ## Requests (R135, R136) -/

/-- The lock state after CLOCK_CONFIG, by the table of R135; `old` is the record before the request. -/
def configureClock (source : ClockSource) (rate : Nat) (s : State) : State :=
  let old := s.clock
  let k := { old with source := source, rate := rate }
  match source, old.lock with
  | .internal, .free => s.setClock k
  | .internal, _ => reportClock old.lock (s.setClock k.toFree)
  | .external, .free => reportClock old.lock (s.setClock k.toAcquiring)
  | .external, _ => if rate = old.rate then s.setClock k else reportClock old.lock (s.setClock k.toAcquiring)

/-- CLOCK_SET's effect (R136). -/
def setShowTime (t : Nat) (s : State) : State :=
  let old := s.clock.showTime
  let s := s.setClock { s.clock with showTime := t }
  if t = old then s else s.hand [.showTimeSet old t]

end Sys2Proof.Machine
end

