-- ==== Sys2Proof/Machine/Operands.lean ====
section
/-! DEFINITION. Operand forms (R187, R196): numbers, marks, named values and lists of a request checked against their ranges; the
encodings of the fields of replies, reports and messages; the CRC; and the reading of a payload into the fields of a request. -/

namespace Sys2Proof.Machine

/-! ## Range checks (R187) -/

/-- A number below `k`. -/
def finOf? (k n : Nat) : Option (Fin k) := if h : n < k then some ⟨n, h⟩ else none

/-- A list of numbers below `k`, none named twice. -/
def distinctOf? (k : Nat) (ns : List Nat) : Option (List (Fin k)) :=
  if ns.Nodup then ns.mapM (finOf? k) else none

/-- A list of 1 to `most` numbers below `k`, none named twice: a count out of range is a value out of range (R187, log 17). -/
def listOf? (most k : Nat) (ns : List Nat) : Option (List (Fin k)) :=
  if 1 ≤ ns.length ∧ ns.length ≤ most then distinctOf? k ns else none

/-- The numbers from `first` upward, `count` of them, `count` from 1 to `most`, none reaching `k`. -/
def rangeOf? (k most first count : Nat) : Option (List (Fin k)) :=
  if 1 ≤ count ∧ count ≤ most ∧ first + count ≤ k then (List.range' first count).mapM (finOf? k) else none

/-- A mark: 0 or 1 (R196). -/
def markOf? (n : Nat) : Option Bool := if n = 0 then some false else if n = 1 then some true else none

/-- A time from 0 to 600 000 ms. -/
def timeOf? (n : Nat) : Option Nat := if n ≤ Config.maxTime then some n else none

/-- A cue number from 1 to 99999. -/
def cueOf? (n : Nat) : Option Nat := if 1 ≤ n ∧ n ≤ Config.maxCue then some n else none

/-- A position. -/
def positionOf? (n : Nat) : Option Position := finOf? 1024 n

/-- A curve, by its code. -/
def curveOf? : Nat → Option Curve
  | 0 => some .linear
  | 1 => some .late
  | 2 => some .early
  | 3 => some .scurve
  | _ => none

/-- A mute action, by its code. -/
def muteOf? : Nat → Option MuteAction
  | 0 => some .none
  | 1 => some .unmuteAtStart
  | 2 => some .muteAtEnd
  | _ => none

/-- A release mode, by its code. -/
def releaseModeOf? : Nat → Option ReleaseMode
  | 0 => some .ret
  | 1 => some .learn
  | 2 => some .latch
  | _ => none

/-- A touch policy, by its code. -/
def touchPolicyOf? : Nat → Option TouchPolicy
  | 0 => some .shadow
  | 1 => some .yield
  | _ => none

/-- A fault action, by its code; NONE takes its place in the list of names (R196; DESIGN CHOICE, log 34). -/
def actionOf? : Nat → Option Action
  | 0 => some .none
  | 1 => some .hold
  | 2 => some .freeze
  | 3 => some .safe
  | _ => none

/-- A fault source, by its place in the Fault Monitor's tables. -/
def sourceOf? (n : Nat) : Option Source := allSources[n]?

/-- A move report mode, by its code; ALL and NONE take their places in the list (R196; DESIGN CHOICE, log 34). -/
def moveReportsOf? : Nat → Option MoveReports
  | 0 => some .all
  | 1 => some .exceptions
  | 2 => some .none
  | _ => none

/-- A clock source, by its code. -/
def clockSourceOf? : Nat → Option ClockSource
  | 0 => some .internal
  | 1 => some .external
  | _ => none

/-- A reference rate. -/
def rateOf? (n : Nat) : Option Nat := if n = 24 ∨ n = 25 ∨ n = 30 then some n else none

/-- A trim. -/
def trimOf? (x : Int) : Option Trim := if h : -255 ≤ x ∧ x ≤ 255 then some ⟨x, h⟩ else none

/-- A whole number within bounds. -/
def within? (lo hi : Nat) (n : Nat) : Option Nat := if lo ≤ n ∧ n ≤ hi then some n else none

/-- A value that may be absent: absent passes, present is checked. -/
def present? {α β : Type} (f : α → Option β) : Option α → Option (Option β)
  | none => some none
  | some a => (f a).map some

/-- Targets of a record (R93). -/
def targetsOf? : RawTargets → Option Targets
  | .list ns =>
    if 1 ≤ ns.length ∧ ns.length ≤ 16 ∧ ns.Pairwise (· < ·) then (ns.mapM (finOf? 96)).map .list else none
  | .range a b => do
    let a ← finOf? 96 a
    let b ← finOf? 96 b
    if a ≤ b then some (.range a b) else none
  | .members g => (finOf? 16 g).map .members
  | .master g => (finOf? 16 g).map .master

/-- A move record (R92). -/
def recordOf? (r : RawRecord) : Option MoveRecord := do
  let targets ← targetsOf? r.targets
  let level ← positionOf? r.level
  let delay ← timeOf? r.delay
  let time ← timeOf? r.time
  let curve ← curveOf? r.curve
  let mute ← muteOf? r.mute
  some { targets, level, delay, time, curve, mute }

/-- A character of a label, 20h to 7Eh (R91). -/
def labelByte (b : Byte) : Bool := 0x20 ≤ b.toNat && b.toNat ≤ 0x7E

/-- A cue header (R91). -/
def headerOf? (h : RawHeader) : Option CueHeader := do
  let follow ← present? (within? 1 Config.maxTime) h.follow
  let link ← present? cueOf? h.link
  let age ← markOf? h.age
  if h.label.length ≤ 16 ∧ h.label.all labelByte then some { label := h.label, follow, link, age } else none

/-! ## Encodings (R196) -/

/-- A number in `k` bytes, high byte first. -/
def bytesOf : Nat → Nat → List Byte
  | 0, _ => []
  | k + 1, n => bytesOf k (n / 256) ++ [BitVec.ofNat 8 n]

/-- A number in one byte. -/
def byte (n : Nat) : List Byte := bytesOf 1 n

/-- A whole number in `k` bytes of two's complement. -/
def signed (k : Nat) (x : Int) : List Byte := bytesOf k (x % (256 ^ k : Nat)).toNat

/-- A mark. -/
def mark (b : Bool) : List Byte := byte (if b then 1 else 0)

/-- A cue number, 0 for absent or none. -/
def cueBytes (n : Option Nat) : List Byte := bytesOf 3 (n.getD 0)

/-- A time that starts at 1, 0 for absent. -/
def followBytes (n : Option Nat) : List Byte := bytesOf 3 (n.getD 0)

/-- A position, or FFFFh. -/
def positionBytes (p : Option Position) : List Byte := bytesOf 2 ((p.map Fin.val).getD 0xFFFF)

/-- A gain: OFF is 8000h. -/
def gainBytes : Gain → List Byte
  | .off => [0x80, 0x00]
  | .tenths t => signed 2 t

/-- A gain that may be none, 8001h. -/
def gainOptBytes : Option Gain → List Byte
  | some g => gainBytes g
  | none => [0x80, 0x01]

/-- A channel, strip, group or link, FFh for none. -/
def numberByte {k : Nat} (n : Option (Fin k)) : List Byte := byte ((n.map Fin.val).getD 0xFF)

/-- A number in `k` bytes that may be absent, all ones. -/
def optBytes (k : Nat) (n : Option Nat) : List Byte := bytesOf k (n.getD (256 ^ k - 1))

/-- Place of a source in the Fault Monitor's tables (R196). -/
def sourceCode : Source → Nat
  | .watchdog => 0
  | .frame => 1
  | .link n => 2 + n.val
  | .clock => 6
  | .motor => 7
  | .overflow => 8

/-- Code of a fault action, its place in the list of names (R196; DESIGN CHOICE for NONE, log 34). -/
def actionCode : Action → Nat
  | .none => 0
  | .hold => 1
  | .freeze => 2
  | .safe => 3

/-- Code of a curve. -/
def curveCode : Curve → Nat
  | .linear => 0
  | .late => 1
  | .early => 2
  | .scurve => 3

/-- Code of a mute action. -/
def muteCode : MuteAction → Nat
  | .none => 0
  | .unmuteAtStart => 1
  | .muteAtEnd => 2

/-- Code of a clock source. -/
def clockSourceCode : ClockSource → Nat
  | .internal => 0
  | .external => 1

/-- Code of a cause of a fire (R125). -/
def causeCode : Cause → Nat
  | .go => 0
  | .goto => 1
  | .follow => 2
  | .schedule => 3
  | .scheduleLate => 4
  | .back => 5

/-- Code of a result of a move (R196). -/
def resultCode : MoveResult → Nat
  | .completed => 0
  | .takenOver => 1
  | .yielded => 2
  | .safed => 3
  | .cancelled => 4
  | .overflow => 5

/-- Code of a calibration result (R139). -/
def calResultCode : CalResult → Nat
  | .ok => 0
  | .fail => 1
  | .timeout => 2
  | .aborted => 3

/-- Number of a move target (R59, R70). -/
def targetCode : Target → Nat
  | .channel c => c.val
  | .master g => 96 + g.val

/-- Specification of a move record's targets (R196). -/
def targetsBytes : Targets → List Byte
  | .list cs => byte 0 ++ byte cs.length ++ cs.flatMap fun c => byte c.val
  | .range a b => byte 1 ++ byte a.val ++ byte b.val
  | .members g => byte 2 ++ byte g.val
  | .master g => byte 3 ++ byte g.val

/-- A move record (R196). -/
def recordBytes (r : MoveRecord) : List Byte :=
  targetsBytes r.targets ++ bytesOf 2 r.level.val ++ bytesOf 3 r.delay ++ bytesOf 3 r.time ++ byte (curveCode r.curve) ++
    byte (muteCode r.mute)

/-- Report code (R196). -/
def reportCode (k : ReportKind) : Nat := 0x80 + k.index.val

/-- Payload of a report: the fields its rule names, in that order (R86, R125, R14, R156, R182, R137, R173, R196). -/
def Report.payload : Report → List Byte
  | .moveEnd id cue t res final =>
    bytesOf 2 id ++ cueBytes cue ++ byte (targetCode t) ++ byte (resultCode res) ++ bytesOf 2 final.val
  | .cueFired cue cause standby follow time =>
    bytesOf 3 cue ++ byte (causeCode cause) ++ cueBytes standby ++ followBytes follow ++ bytesOf 4 time
  | .level c o clip => byte c.val ++ gainBytes o ++ mark clip
  | .touch n c released implied p => byte n.val ++ numberByte c ++ mark released ++ mark implied ++ bytesOf 2 p.val
  | .fault src cleared count action eff =>
    byte (sourceCode src) ++ mark cleared ++ byte count ++ byte (actionCode action) ++ byte (actionCode eff)
  | .clockState old new source rate time rho =>
    byte old ++ byte new ++ byte (clockSourceCode source) ++ byte rate ++ bytesOf 4 time ++ signed 2 rho
  | .linkState l old new mirror => byte l.val ++ byte old ++ byte new ++ numberByte mirror
  | .stripState n old new c res => byte n.val ++ byte old ++ byte new ++ numberByte c ++ optBytes 1 (res.map calResultCode)
  | .schedule late cue time now => mark late ++ bytesOf 3 cue ++ bytesOf 4 time ++ bytesOf 4 now

/-! ## CRC and frames (R196) -/

/-- One bit of the CRC-16 with the polynomial 1021h. -/
def crcBit (c : BitVec 16) : BitVec 16 := if c.msb then (c <<< 1) ^^^ 0x1021 else c <<< 1

/-- One byte of the CRC, most significant bit first. -/
def crcByte (c : BitVec 16) (b : Byte) : BitVec 16 :=
  crcBit (crcBit (crcBit (crcBit (crcBit (crcBit (crcBit (crcBit (c ^^^ (b.zeroExtend 16 <<< 8)))))))))

/-- The CRC-16 of some bytes, initial value FFFFh. -/
def crc16 (bs : List Byte) : BitVec 16 := bs.foldl crcByte 0xFFFF

/-- The two CRC bytes, high byte first. -/
def crcBytes (bs : List Byte) : List Byte := bytesOf 2 (crc16 bs).toNat

/-- Code of a status (R196). -/
def statusCode : Status → Nat
  | .ok => 0
  | .badLength => 1
  | .unknown => 2
  | .range => 3
  | .state => 4
  | .full => 5
  | .stale => 6
  | .conflict => 7
  | .busy => 8
  | .absent => 9
  | .stillPresent => 10

/-- A control link frame (R196). -/
def frameBytes (kind tag code status : Byte) (payload : List Byte) : List Byte :=
  let body := [kind, tag, code, status] ++ payload
  [0xA5, BitVec.ofNat 8 payload.length] ++ body ++ crcBytes body

/-- A gain link message (R196). -/
def messageBytes (type : Byte) (entries : List (Slot × Gain)) : List Byte :=
  let body := [type, BitVec.ofNat 8 entries.length] ++ entries.flatMap fun e => byte e.1.val ++ gainBytes e.2
  0xA5 :: (body ++ crcBytes body)

/-! ## Reading a payload (R187, R196) -/

/-- A reader of some bytes of a payload; it fails where the bytes run out. -/
abbrev Reader (α : Type) := StateT (List Byte) Option α

/-- The number that `k` bytes spell, high byte first. -/
def numberOfBytes (bs : List Byte) : Nat := bs.foldl (fun n b => 256 * n + b.toNat) 0

/-- The next `k` bytes. -/
def readBytes (k : Nat) : Reader (List Byte) := fun bs => if k ≤ bs.length then some (bs.take k, bs.drop k) else none

/-- A number of `k` bytes. -/
def readNat (k : Nat) : Reader Nat := numberOfBytes <$> readBytes k

/-- A number of `k` bytes in two's complement. -/
def readInt (k : Nat) : Reader Int :=
  (fun n => if 2 * n < 256 ^ k then (n : Int) else (n : Int) - (256 ^ k : Nat)) <$> readNat k

/-- A number whose value `absent` stands for none. -/
def readOpt (k absent : Nat) : Reader (Option Nat) := (fun n => if n = absent then none else some n) <$> readNat k

/-- Bytes, each a number. -/
def readEach (k : Nat) : Reader (List Nat) := List.map BitVec.toNat <$> readBytes k

/-- A list with its count before it. -/
def readList : Reader (List Nat) := do readEach (← readNat 1)

/-- A list with its count before it, of 1 to `most` entries; a payload of another length does not fit it (R35, log 17). -/
def readListUpTo (most : Nat) : Reader (List Nat) := do
  let n ← readNat 1
  if 1 ≤ n ∧ n ≤ most then readEach n else failure

/-- Nothing. -/
def readUnit : Reader Unit := pure ()

/-- A field behind a presence byte; one above 1 leaves the length undecidable (DEDUCED, log 18). -/
def readPresent {α : Type} (f : Reader α) : Reader (Option α) := do
  match ← readNat 1 with
  | 0 => pure none
  | 1 => some <$> f
  | _ => failure

/-- Entries of 1 byte, FFh being none. -/
def readEntries (k : Nat) : Reader (List (Option Nat)) :=
  List.map (fun n => if n = 0xFF then none else some n) <$> readEach k

/-- Targets of a move record, after its kind. -/
def readTargets : Reader RawTargets := do
  match ← readNat 1 with
  | 0 => .list <$> readList
  | 1 => do return .range (← readNat 1) (← readNat 1)
  | 2 => .members <$> readNat 1
  | 3 => .master <$> readNat 1
  | _ => failure

/-- A move record. -/
def readRecord : Reader RawRecord := do
  let targets ← readTargets
  let level ← readNat 2
  let delay ← readNat 3
  let time ← readNat 3
  let curve ← readNat 1
  let mute ← readNat 1
  return { targets, level, delay, time, curve, mute }

/-- Move records, `k` of them. -/
def readRecords : Nat → Reader (List RawRecord)
  | 0 => pure []
  | k + 1 => do return (← readRecord) :: (← readRecords k)

/-- A cue header. -/
def readHeader : Reader RawHeader := do
  let label ← readBytes (← readNat 1)
  let follow ← readOpt 3 0
  let link ← readOpt 3 0
  let age ← readNat 1
  return { label, follow, link, age }

/-- A CUE_LOAD part. -/
def readPart : Reader CueLoadFields := do
  let cue ← readNat 3
  let part ← readNat 1
  let last ← readNat 1
  let count ← readNat 1
  let header ← if part = 0 then some <$> readHeader else pure none
  let records ← readRecords count
  return { cue, part, last, header, records }

/-- A payload read whole. -/
def formOf {α : Type} (r : Reader α) (payload : List Byte) : Form α :=
  match r payload with
  | some (a, []) => .fields a
  | _ => .wrongLength

/-- A payload that is empty or read whole. -/
def formOrEmpty {α : Type} (r : Reader α) (payload : List Byte) : Form (Option α) :=
  if payload = [] then .fields none else formOf (some <$> r) payload

/-- A first number and a count. -/
def readRange : Reader RangeFields := do return { first := ← readNat 1, count := ← readNat 1 }

/-- CHAN_CONFIG. -/
def readChanConfig : Reader ChanConfigFields := do
  let first ← readNat 1
  let count ← readNat 1
  let staticTrim ← readPresent (readInt 2)
  let releaseMode ← readPresent (readNat 1)
  let touchPolicy ← readPresent (readNat 1)
  let safeLevel ← readPresent (readOpt 2 0xFFFF)
  let safed ← readPresent (readNat 1)
  return { first, count, staticTrim, releaseMode, touchPolicy, safeLevel, safed }

/-- Two-byte trims, `k` of them. -/
def readTrims : Nat → Reader (List Int)
  | 0 => pure []
  | k + 1 => do return (← readInt 2) :: (← readTrims k)

/-- TRIM_SET. -/
def readTrimSet : Reader TrimSetFields := do
  let first ← readNat 1
  let trims ← readTrims (← readNat 1)
  return { first, trims }

/-- GROUP_READ, by its length. -/
def groupReadForm (payload : List Byte) : Form GroupReadFields :=
  if payload.length = 1 then formOf (.one <$> readNat 1) payload
  else formOf (do return .range (← readNat 1) (← readNat 1)) payload

/-- BANK_MAP, by its length. -/
def bankMapForm (payload : List Byte) : Form BankMapFields :=
  if payload.length = 1 then formOf (do return { bank := ← readNat 1, write := none }) payload
  else
    formOf
      (do
        let bank ← readNat 1
        let first ← readNat 1
        let entries ← readEntries (← readNat 1)
        return { bank, write := some (first, entries) })
      payload

/-- SURFACE_CONFIG, by its length. -/
def surfaceForm (payload : List Byte) : Form SurfaceConfigFields :=
  if payload = [] then .fields .read
  else if payload.length = 2 then formOf (do return .fineOffset (← readNat 1) (← readInt 1)) payload
  else
    formOf
      (do
        let start ← readNat 1
        let stop ← readNat 1
        let touch ← readNat 1
        let release ← readNat 1
        let debounce ← readNat 1
        let hysteresis ← readNat 1
        let drift ← readNat 1
        return .settings { start, stop, touch, release, debounce, hysteresis, drift })
      payload

/-- SLOT_MAP, by its length. -/
def slotMapForm (payload : List Byte) : Form SlotMapFields :=
  formOf
    (do
      let link ← readNat 1
      let first ← readNat 1
      let count ← readNat 1
      let entries ← if payload.length = 3 then pure none else some <$> readEntries count
      return { link, first, count, entries })
    payload

/-- LINK_CONFIG, by its length. -/
def linkConfigForm (payload : List Byte) : Form LinkConfigFields :=
  if payload.length = 1 then formOf (do return { link := ← readNat 1, settings := none }) payload
  else
    formOf
      (do
        let link ← readNat 1
        let enable ← readNat 1
        let high ← readNat 1
        let low ← readNat 1
        let step ← readNat 1
        let mirror ← readOpt 1 0xFF
        return { link, settings := some { enable, high, low, step, mirror } })
      payload

/-- FAULT_CONFIG, by its length. -/
def faultConfigForm (payload : List Byte) : Form FaultConfigFields :=
  if payload.length = 1 then formOf (do return { source := ← readNat 1, settings := none }) payload
  else
    formOf
      (do
        let source ← readNat 1
        let action ← readNat 1
        let trip ← readNat 1
        let mask ← readNat 1
        return { source, settings := some { action, trip, mask } })
      payload

/-- GOTO and GOTO_FIRE, told apart by the fire option (R115). -/
def gotoOf (tag : Byte) (payload : List Byte) : Instr :=
  match formOf (do return ({ cue := ← readNat 3, fire := ← readNat 1 } : GotoFields)) payload with
  | .wrongLength => .goto tag .wrongLength
  | .fields f => if f.fire = 1 then .gotoFire tag (.fields f.cue) else .goto tag (.fields f)

/-- The RESET row of a scope; a payload that names none goes to RESET_ALL's row (R195). -/
def resetOf (tag : Byte) (payload : List Byte) : Instr :=
  match formOf (readNat 1) payload with
  | .wrongLength => .resetAll tag .wrongLength
  | .fields 1 => .resetPlayback tag .own
  | .fields 2 => .resetSurface tag .own
  | .fields 3 => .resetLinks tag .own
  | .fields 4 => .resetAll tag .own
  | .fields v => .resetAll tag (.badScope v)

/-- The command a request of the inbound queue is (R187, R196). -/
def commandOf (r : Request) : Instr :=
  let p := r.payload
  match r.code.toNat with
  | 0x01 => .ident r.tag (formOf readUnit p)
  | 0x02 => .heartbeat r.tag (formOf readUnit p)
  | 0x03 => .status r.tag (formOf readUnit p)
  | 0x04 => resetOf r.tag p
  | 0x05 => .reportMode r.tag (formOrEmpty (do return { enables := ← readEach 9, mode := ← readNat 1 }) p)
  | 0x06 => .watchSet r.tag (formOrEmpty
      (do return { entry := ← readNat 1, inUse := ← readNat 1, value := ← readNat 1, mask := ← readNat 1 }) p)
  | 0x07 => .heartbeatConfig r.tag (formOrEmpty
      (do return { enable := ← readNat 1, upper := ← readNat 2, lower := ← readNat 2 }) p)
  | 0x10 => .cueLoad r.tag (formOf readPart p)
  | 0x11 => .cueDelete r.tag (formOf (readNat 3) p)
  | 0x12 => .cueRead r.tag (formOf (do return { cue := ← readNat 3, mode := ← readNat 1, index := ← readNat 1 }) p)
  | 0x13 => .listClear r.tag (formOf readUnit p)
  | 0x14 => .listInfo r.tag (formOf readUnit p)
  | 0x20 => .go r.tag (formOf
      (do return { cue := ← readPresent (readNat 3), generation := ← readPresent (readNat 2) }) p)
  | 0x21 => .back r.tag (formOf readUnit p)
  | 0x22 => gotoOf r.tag p
  | 0x23 => .hold r.tag (formOf readUnit p)
  | 0x24 => .resume r.tag (formOf readUnit p)
  | 0x25 => .stop r.tag (formOf readUnit p)
  | 0x26 => .scheduleAdd r.tag (formOf (do return { time := ← readNat 4, cue := ← readNat 3 }) p)
  | 0x27 => .scheduleCancel r.tag (formOf (readOpt 3 0xFFFFFF) p)
  | 0x28 => .playbackRead r.tag (formOf readUnit p)
  | 0x29 => .playbackConfig r.tag (formOrEmpty (readNat 3) p)
  | 0x30 => .chanSet r.tag (formOf
      (do return { channels := ← readList, level := ← readNat 2, time := ← readNat 3, curve := ← readNat 1 }) p)
  | 0x31 => .chanConfig r.tag (formOf readChanConfig p)
  | 0x32 => .chanRead r.tag (formOf readRange p)
  | 0x33 => .muteSet r.tag (formOf (do return { list := ← readList, value := ← readNat 1 }) p)
  | 0x34 => .chanRelease r.tag (formOf (readListUpTo 16) p)
  | 0x35 => .levelConfig r.tag (formOrEmpty
      (do return { glide := ← readNat 2, ramp := ← readNat 2, slew := ← readNat 2 }) p)
  | 0x38 => .trimSet r.tag (formOf readTrimSet p)
  | 0x39 => .trimRotate r.tag (formOf readUnit p)
  | 0x3A => .trimClear r.tag (formOf (readOpt 1 0xFF) p)
  | 0x3B => .trimRead r.tag (formOf readRange p)
  | 0x40 => .groupMembers r.tag (formOf (do return { group := ← readNat 1, channels := ← readList }) p)
  | 0x41 => .groupSet r.tag (formOf
      (do return { group := ← readNat 1, position := ← readNat 2, time := ← readNat 3, curve := ← readNat 1 }) p)
  | 0x42 => .groupMute r.tag (formOf (do return { list := ← readList, value := ← readNat 1 }) p)
  | 0x43 => .groupRead r.tag (groupReadForm p)
  | 0x50 => .bankMap r.tag (bankMapForm p)
  | 0x51 => .bankSelect r.tag (formOf (readNat 1) p)
  | 0x52 => .stripCalibrate r.tag (formOf readList p)
  | 0x53 => .surfaceConfig r.tag (surfaceForm p)
  | 0x54 => .stripRead r.tag (formOf readRange p)
  | 0x60 => .slotMap r.tag (slotMapForm p)
  | 0x61 => .linkConfig r.tag (linkConfigForm p)
  | 0x62 => .linkRead r.tag (formOf (readNat 1) p)
  | 0x70 => .clockConfig r.tag (formOrEmpty (do return { source := ← readNat 1, rate := ← readNat 1 }) p)
  | 0x71 => .clockSet r.tag (formOf (readNat 4) p)
  | 0x72 => .clockRead r.tag (formOf readUnit p)
  | 0x78 => .faultConfig r.tag (faultConfigForm p)
  | 0x79 => .faultClear r.tag (formOf (readNat 1) p)
  | 0x7A => .faultTest r.tag (formOf (readNat 1) p)
  | 0x7B => .faultRead r.tag (formOf readUnit p)
  | _ => .unknown r.tag r.code

end Sys2Proof.Machine
end

