-- ==== Sys2Proof/Machine/LinkOps.lean ====
section
/-! DEFINITION. The Gain Link Controller (spec/10_output_links.md): maps, the update queue, training and keepalive, frames,
congestion and configuration of a link. -/

namespace Sys2Proof.Machine

/-- The slots, in ascending order. -/
def allSlots : List Slot := List.finRange 64

/-- The names of the link states, in the order of R160. -/
def LinkState.code : LinkState → StateCode
  | .off => 0
  | .training _ => 1
  | .up _ _ => 2
  | .fault _ => 3

/-! ## Sources of slots (R160, R171) -/

/-- The effective map of a link. -/
def effectiveMap (s : State) (l : LinkNo) : SlotMap :=
  match (s.link l).mirror with
  | some m => (s.link m).ownMap
  | none => (s.link l).ownMap

/-- The present output gain of a source, OFF for NONE. -/
def presentGain (s : State) : Option ChanNo → Gain
  | some c => (s.channel c).output
  | none => .off

/-- The present output gain of a slot's effective source. -/
def slotGain (s : State) (l : LinkNo) (slot : Slot) : Gain := presentGain s (effectiveMap s l)[slot]

/-! ## The update queue (R165) -/

/-- The slot is queued. -/
def Link.isQueued (r : Link) (slot : Slot) : Bool := r.queue.any fun e => e.1 = slot

/-- The check for entering CONGESTED that follows every append (R169). -/
def Link.checkHigh (r : Link) : Link := if r.high ≤ r.queue.length then { r with congested := true } else r

/-- An entry replaced in its place. -/
def Link.replace (r : Link) (slot : Slot) (v : Gain) : Link :=
  { r with queue := r.queue.map fun e => if e.1 = slot then (slot, v) else e }

/-- An entry appended, its stale mark cleared, and the check made. -/
def Link.append (r : Link) (slot : Slot) (v : Gain) : Link :=
  ({ r with queue := r.queue ++ [(slot, v)], stale := r.stale.filter (· ≠ slot) } : Link).checkHigh

/-- A slot enqueued with a value: replaced or appended, its stale mark cleared in either case (R165). -/
def Link.enqueue (r : Link) (slot : Slot) (v : Gain) : Link :=
  if r.isQueued slot then { r.replace slot v with stale := r.stale.filter (· ≠ slot) } else r.append slot v

/-- A slot marked stale; the marks stand in ascending order. -/
def Link.markStale (r : Link) (slot : Slot) : Link :=
  { r with stale := allSlots.filter fun x => x = slot || r.stale.contains x }

/-- Slots enqueued in order, each with a gain. -/
def Link.enqueueAll (r : Link) (gain : Slot → Gain) (slots : List Slot) : Link :=
  slots.foldl (fun r slot => r.enqueue slot (gain slot)) r

/-- The link leaves CONGESTED and its stale slots are enqueued with these gains (R169). -/
def Link.flush (r : Link) (gain : Slot → Gain) : Link :=
  ({ r with congested := false } : Link).enqueueAll gain r.stale

/-- The check for leaving CONGESTED (R169). -/
def Link.checkLow (r : Link) (gain : Slot → Gain) : Link :=
  if r.congested && r.queue.length ≤ r.low then r.flush gain else r

/-- The queue, the stale marks, CONGESTED and the last-sent values emptied (R163, R164). -/
def Link.emptied (r : Link) : Link :=
  { r with queue := [], congested := false, stale := [], lastSent := Vector.replicate 64 none }

/-- A counter of 32 bits advanced (R160). -/
def bump (n k : Nat) : Nat := (n + k) % 4294967296

/-! ## Events from the Channel Table (R166, R167) -/

/-- Whether a changed value is sent though the link is CONGESTED (R166, step 3). -/
def Link.passes (r : Link) (slot : Slot) (v : Gain) (settled : Bool) : Bool :=
  match r.lastSent[slot] with
  | none => true
  | some last =>
    v = .off || last = .off || settled || decide (r.step ≤ (counted v - counted last).natAbs)

/-- An output gain changed event at one slot of an UP link (R166). -/
def Link.change (r : Link) (slot : Slot) (v : Gain) (settled : Bool) : Link :=
  if r.isQueued slot then r.replace slot v
  else if !r.congested || r.passes slot v settled then r.append slot v
  else r.markStale slot

/-- A channel settled event at one slot of an UP link (R167). -/
def Link.settle (r : Link) (slot : Slot) (v : Gain) : Link :=
  if r.stale.contains slot then r.append slot v else r

/-- The slots a channel feeds by a map, in slot order. -/
def slotsOf (m : SlotMap) (c : ChanNo) : List Slot := allSlots.filter fun slot => m[slot] = some c

/-- An output gain changed event at a link (R166). -/
def gainChangedAt (l : LinkNo) (c : ChanNo) (o : Gain) (settled : Bool) (s : State) : State :=
  if (s.link l).isUp then
    s.setLink l ((slotsOf (effectiveMap s l) c).foldl (fun r slot => r.change slot o settled) (s.link l))
  else s

/-- A channel settled event at a link (R167). -/
def channelSettledAt (l : LinkNo) (c : ChanNo) (o : Gain) (s : State) : State :=
  if (s.link l).isUp then
    s.setLink l ((slotsOf (effectiveMap s l) c).foldl (fun r slot => r.settle slot o) (s.link l))
  else s

/-! ## Training, UP and loss (R161 to R164) -/

/-- The LINK_STATE report of a changed state (R173). -/
def reportLink (l : LinkNo) (old : LinkState) (s : State) : State :=
  let r := s.link l
  if old.code = r.state.code then s else s.offer (.linkState l old.code r.state.code r.mirror)

/-- Training begins: a hello is sent, and the state is FAULT where the source is tripped (R161, R162). -/
def beginTraining (l : LinkNo) (s : State) : State :=
  let r := s.link l
  (s.setLink l
      { r with state := if r.tripped then .fault Config.helloWindow else .training Config.helloWindow
               lastFrame := none }).emit (.link l helloMessage)

/-- One LINK occurrence (R161, R163). -/
def handLink (l : LinkNo) (s : State) : State := s.hand [.occurrence (.link l)]

/-- A hello window that has run out (R161). -/
def helloUnansweredAt (l : LinkNo) (s : State) : State :=
  let r := s.link l
  handLink l (beginTraining l (s.setLink l { r with hellosUnanswered := bump r.hellosUnanswered 1 }))

/-- A keepalive is sent (R163). -/
def sendKeepalive (l : LinkNo) (s : State) : State := s.emit (.link l (messageBytes 0x03 []))

/-- A keepalive is lost (R163). -/
def loseKeepalive (l : LinkNo) (s : State) : State :=
  let r := s.link l
  let s := s.setLink l { r.emptied with keepaliveLosses := bump r.keepaliveLosses 1 }
  reportLink l r.state (handLink l (beginTraining l s))

/-- The link enters UP (R163). -/
def enterUp (l : LinkNo) (s : State) : State :=
  let r := s.link l
  let up : Link := { r with state := .up Config.keepaliveSteps 0, lastFrame := none }
  let s' := sendKeepalive l (s.setLink l (up.enqueueAll (slotGain s l) allSlots))
  reportLink l r.state (s'.hand [.goodEvent (.link l)])

/-- A ready from the engine (R161). -/
def readyAt (l : LinkNo) (s : State) : State :=
  match (s.link l).state with
  | .training _ => enterUp l s
  | .fault _ => enterUp l s
  | _ => s

/-- A keepalive acknowledgement (R163). -/
def acknowledgementAt (l : LinkNo) (s : State) : State :=
  match (s.link l).state with
  | .up k _ => s.setLink l { s.link l with state := .up k 0 }
  | _ => s

/-- The keepalive timer at a clock step in UP: the keepalive sent, if any, and the timer (R163). -/
def stepKeepalive (l : LinkNo) (k : Nat) (s : State) : Nat × State :=
  if k ≤ 1 then (Config.keepaliveSteps, sendKeepalive l s) else (k - 1, s)

/-- A clock step at a link (R161, R163). -/
def linkStep (l : LinkNo) (s : State) : State :=
  let r := s.link l
  match r.state with
  | .off => s
  | .training w => if w ≤ 1 then helloUnansweredAt l s else s.setLink l { r with state := .training (w - 1) }
  | .fault w => if w ≤ 1 then helloUnansweredAt l s else s.setLink l { r with state := .fault (w - 1) }
  | .up k silence =>
    let stepped := stepKeepalive l k s
    if Config.silenceSteps ≤ silence + 1 then loseKeepalive l stepped.2
    else stepped.2.setLink l { r with state := .up stepped.1 (silence + 1) }

/-- A source tripped event at a link (R162). -/
def sourceTrippedAt (l : LinkNo) (s : State) : State :=
  let r := s.link l
  let st : LinkState := match r.state with
    | .training w => .fault w
    | st => st
  reportLink l r.state (s.setLink l { r with tripped := true, state := st })

/-- A source cleared event at a link (R162). -/
def sourceClearedAt (l : LinkNo) (s : State) : State :=
  let r := s.link l
  let st : LinkState := match r.state with
    | .fault w => .training w
    | st => st
  reportLink l r.state (s.setLink l { r with tripped := false, state := st })

/-! ## Frames (R168) -/

/-- A frame is due at an internal time: the link is UP, something is queued, and no frame was sent since UP or 250 µs have
passed since the last one. -/
def Link.maySend (r : Link) (now : Nat) : Bool :=
  r.isUp && !r.queue.isEmpty &&
    match r.lastFrame with
    | none => true
    | some t => t + Config.framePace ≤ now

/-- The last-sent values after these entries are carried. -/
def sentValues (v : Vector (Option Gain) 64) (es : List (Slot × Gain)) : Vector (Option Gain) 64 :=
  es.foldl (fun v e => v.set e.1 (some e.2)) v

/-- The link after a frame at an internal time, before the check for leaving CONGESTED. -/
def Link.framed (r : Link) (now : Nat) : Link :=
  let es := r.queue.take Config.frameEntries
  { r with queue := r.queue.drop Config.frameEntries
           lastSent := sentValues r.lastSent es
           framesSent := bump r.framesSent 1
           entriesSent := bump r.entriesSent es.length
           lastFrame := some now }

/-- The sending of a frame: time runs on to the internal time of the frame (log 9). Where none is due then, nothing happens. -/
def sendFrame (l : LinkNo) (time : Nat) (s : State) : State :=
  let r := s.link l
  let now := max s.clock.now time
  if r.maySend now then
    ((passTime (time - s.clock.now) s).setLink l ((r.framed now).checkLow (slotGain s l))).emit
      (.link l (messageBytes 0x05 (r.queue.take Config.frameEntries)))
  else s

/-! ## Messages from the engine (R197) -/

/-- A whole message is a good one of this type: no entries, and its CRC agrees. -/
def goodMessage (type : Byte) (m : List Byte) : Bool := m = messageBytes type []

/-- A message from the engine: ready, acknowledgement, or discarded. -/
def engineMessage (l : LinkNo) (m : List Byte) (s : State) : State :=
  if goodMessage 0x02 m then readyAt l s
  else if goodMessage 0x04 m then acknowledgementAt l s
  else s

/-! ## Maps and settings (R164, R169 to R172) -/

/-- The entries of a map, written from a first slot upward. -/
def writeEntries (m : SlotMap) : List (Slot × Option ChanNo) → SlotMap
  | [] => m
  | e :: es => writeEntries (m.set e.1 e.2) es

/-- The slots of these entries whose entry in a map changes. -/
def changedSlots (m : SlotMap) (es : List (Slot × Option ChanNo)) : List Slot :=
  (es.filter fun e => m[e.1] ≠ e.2).map Prod.fst

/-- The link takes its sources from the own map of `l`. -/
def usesMap (s : State) (l k : LinkNo) : Bool :=
  (s.link k).isUp && ((s.link k).mirror = some l || (k = l && (s.link k).mirror.isNone))

/-- Slots enqueued at a link with the present gain of their effective sources. -/
def refreshSlots (k : LinkNo) (slots : List Slot) (s : State) : State :=
  s.setLink k ((s.link k).enqueueAll (slotGain s k) slots)

/-- Entries written into a link's own map, and the changed slots enqueued at the links that use it (R170). -/
def writeMap (l : LinkNo) (es : List (Slot × Option ChanNo)) (s : State) : State :=
  let changed := changedSlots (s.link l).ownMap es
  let s := s.setLink l { s.link l with ownMap := writeEntries (s.link l).ownMap es }
  (allLinks.filter (usesMap s l)).foldl (fun s k => refreshSlots k changed s) s

/-- The link goes to OFF, unless it is OFF (R164). -/
def disableLink (l : LinkNo) (s : State) : State :=
  let r := s.link l
  if r.state = .off then s
  else reportLink l r.state (s.setLink l { r.emptied with state := .off, lastFrame := none })

/-- An OFF link begins training (R164). -/
def enableLink (l : LinkNo) (s : State) : State :=
  let r := s.link l
  if r.state = .off then reportLink l r.state (beginTraining l s) else s

/-- The effect of enable; the value held before changes nothing (R164). -/
def enableEffect (l : LinkNo) (old on : Bool) (s : State) : State :=
  if on = old then s else if on then enableLink l s else disableLink l s

/-- The effect of the water marks at an UP link (R169). -/
def marksEffect (l : LinkNo) (s : State) : State :=
  let r := s.link l
  if r.isUp then s.setLink l (if r.congested then r.checkLow (slotGain s l) else r.checkHigh) else s

/-- The effect of a change of mirror source: at an UP link every slot is enqueued (R171). -/
def mirrorEffect (l : LinkNo) (old : Option LinkNo) (s : State) : State :=
  if (s.link l).mirror ≠ old ∧ (s.link l).isUp then refreshSlots l allSlots s else s

/-- R171 refuses the mirror source. -/
def mirrorConflict (s : State) (l : LinkNo) (m : Option LinkNo) : Bool :=
  match m with
  | none => false
  | some k => k = l || (s.link k).mirror.isSome || allLinks.any fun j => (s.link j).mirror = some l

/-- The five settings written together, then their effects (R172). R172 lists the effects without an order: the water marks act
first, with the flush of the stale slots, then the change of mirror source (DESIGN CHOICE, log 33). -/
def writeLink (l : LinkNo) (on : Bool) (high low step : Nat) (m : Option LinkNo) (s : State) : State :=
  let r := s.link l
  let s := s.setLink l { r with enable := on, high := high, low := low, step := step, mirror := m }
  mirrorEffect l r.mirror (marksEffect l (enableEffect l r.enable on s))

end Sys2Proof.Machine
end

