-- ==== Sys2Proof/Machine/CueOps.lean ====
section
/-! DEFINITION. The Cue Store (spec/06_the_cue_list.md): lookups, the order of the list, counts and edits. -/

namespace Sys2Proof.Machine

/-! ## Lookups (R104) -/

/-- EXACT n: the cue numbered n. -/
def lookupExact (cs : List Cue) (n : Nat) : Option Cue := cs.find? fun c => c.number = n

/-- AT_OR_ABOVE n: the lowest cue whose number is n or above. -/
def lookupAtOrAbove (cs : List Cue) (n : Nat) : Option Cue := cs.find? fun c => n ≤ c.number

/-- ABOVE n: the lowest cue whose number is above n. -/
def lookupAbove (cs : List Cue) (n : Nat) : Option Cue := cs.find? fun c => n < c.number

/-- BELOW n: the highest cue whose number is below n. -/
def lookupBelow (cs : List Cue) (n : Nat) : Option Cue := (cs.filter fun c => c.number < n).getLast?

/-- FIRST: the lowest cue. -/
def lookupFirst (cs : List Cue) : Option Cue := cs.head?

/-! ## Counts and edits (R94, R95, R99) -/

/-- The record count: the lengths of all move lists. -/
def recordCount (cs : List Cue) : Nat := (cs.map fun c => c.records.length).sum

/-- A cue put at its place in number order, replacing one of its number. -/
def insertCue (c : Cue) : List Cue → List Cue
  | [] => [c]
  | d :: ds => if c.number < d.number then c :: d :: ds else if c.number = d.number then c :: ds else d :: insertCue c ds

/-- The list without the cue numbered n. -/
def removeCue (n : Nat) (cs : List Cue) : List Cue := cs.filter fun c => c.number ≠ n

/-- The generation after an edit (R95). -/
def nextGeneration (g : Nat) : Nat := (g + 1) % 65536

/-- The list after an edit, with its generation advanced and the list edited event handed (R95, R100). -/
def editList (cs : List Cue) (e : Edit) (s : State) : State :=
  { s with store := { s.store with cues := cs, generation := nextGeneration s.store.generation } }.hand
    [.listEdited e cs.length]

/-- The capacity check of a commit (R99). -/
def commitFits (c : Cue) (cs : List Cue) : Bool :=
  (insertCue c cs).length ≤ Config.maxCues && recordCount (insertCue c cs) ≤ Config.maxRecords

/-- A commit that fits: the list, the generation, the buffer and the event (R99). -/
def commitCue (c : Cue) (s : State) : State :=
  let cs := s.store.cues
  let e : Edit := if (lookupExact cs c.number).isSome then .replaced c.number else .added c.number cs.isEmpty
  let s' := editList (insertCue c cs) e s
  { s' with store := { s'.store with buffer := none } }

end Sys2Proof.Machine
end

