-- ==== Sys2Proof/Machine/GroupOps.lean ====
section
/-! DEFINITION. The Group Table (spec/04_groups.md): masters, master mutes, member sets, and the events to members. -/

namespace Sys2Proof.Machine

/-- A master position changed event at the Group Table (R63). -/
def writeMaster (g : GroupNo) (p : Position) (s : State) : State :=
  let r := s.group g
  if p = r.master then s
  else (s.setGroup g { r with master := p }).hand (r.members.map fun c => .masterChanged c g)

/-- The master mute set; a value it already holds hands nothing (R64, R66). -/
def writeMasterMute (g : GroupNo) (on : Bool) (s : State) : State :=
  let r := s.group g
  if on = r.muted then s
  else (s.setGroup g { r with muted := on }).hand (r.members.map fun c => .masterMuteChanged c g)

/-- A set of channels in its one form: ascending, each once (R59). -/
def channelSet (cs : List ChanNo) : List ChanNo := allChannels.filter fun c => cs.contains c

/-- Channels that join when a member set becomes another (R61, R62). -/
def joining (old new : List ChanNo) : List ChanNo := new.filter fun c => !old.contains c

/-- The member set of `g` replaced, and the membership events handed (R61, R62). -/
def writeMembers (g : GroupNo) (new : List ChanNo) (s : State) : State :=
  let r := s.group g
  (s.setGroup g { r with members := new }).hand
    (((joining r.members new).map fun c => .joinedGroup c g) ++ ((joining new r.members).map fun c => .leftGroup c g))

/-- The groups other than `g` that hold channel `c` (R61). -/
def otherGroups (s : State) (g : GroupNo) (c : ChanNo) : List GroupNo :=
  (groupsOf s c).filter fun h => h ≠ g

/-- Taking these channels into `g` would break the four-group limit (R61). -/
def membersConflict (s : State) (g : GroupNo) (cs : List ChanNo) : Bool :=
  cs.any fun c => Config.maxGroupsOfChannel ≤ (otherGroups s g c).length

end Sys2Proof.Machine
end

