-- ==== Sys2Proof/Machine/MoveOps.lean ====
section
/-! DEFINITION. The Move Engine (spec/05_moves.md): curves and positions, making and starting moves, their ends and reports,
and the engine's clock step. -/

namespace Sys2Proof.Machine

/-! ## Curves and positions (R80, R81) -/

/-- Normalized time u at elapsed `e` of duration `d`, 0 to 4096 (R80). -/
def curveTime (e d : Nat) : Nat := e * 4096 / d

/-- Weight w of a curve at u (R80). -/
def Curve.weight (k : Curve) (u : Nat) : Nat :=
  match k with
  | .linear => u
  | .late => u * u / 4096
  | .early => 4096 - (4096 - u) * (4096 - u) / 4096
  | .scurve => u * u * (12288 - 2 * u) / 16777216

/-- Position of a run from `start` at elapsed `e`, `goal` from the duration on (R81). -/
def Move.positionAt (m : Move) (start : Position) (e : Nat) : Position :=
  if e = 0 then start
  else if m.duration ≤ e then m.goal
  else between start m.goal (Curve.weight m.curve (curveTime e m.duration)) 4096

/-- The position a target holds: P_auto of a channel, the master position of a group. -/
def targetPosition (s : State) : Target → Position
  | .channel c => (s.channel c).pAuto
  | .master g => (s.group g).master

/-- The final position of a move that ends short of its goal: the last computed, or its target's present one (R83 to R85). -/
def finalPosition (s : State) (m : Move) : Position :=
  match m.phase with
  | .running e start => m.positionAt start e
  | .waiting _ => targetPosition s m.target

/-- The move is RUNNING. -/
def Move.isRunning (m : Move) : Bool :=
  match m.phase with
  | .running _ _ => true
  | .waiting _ => false

/-- The move waits no longer and is to start. -/
def Move.due (m : Move) : Bool := m.phase = .waiting 0

/-! ## Events to targets -/

/-- The position event to a move's target (R79). -/
def positionEvent (t : Target) (p : Position) : Instr :=
  match t with
  | .channel c => .automationPositionChanged c p
  | .master g => .masterPositionChanged g p

/-- The mute action event to a move's target (R77, R82). -/
def muteEvent (t : Target) (on : Bool) : Instr :=
  match t with
  | .channel c => .muteAction c on
  | .master g => .masterMuteAction g on

/-- The event is one the Move Engine hands to this target. -/
def isMoveEvent (t : Target) (e : Instr) : Bool :=
  match t, e with
  | .channel c, .automationPositionChanged d _ => c = d
  | .channel c, .muteAction d _ => c = d
  | .master g, .masterPositionChanged h _ => g = h
  | .master g, .masterMuteAction h _ => g = h
  | _, _ => false

/-- An event of the Move Engine taken at its target. -/
def takeMoveEvent (e : Instr) (s : State) : State :=
  match e with
  | .automationPositionChanged c p => automationAt c p (s.take e)
  | .muteAction c on => setOwnMute c on (s.take e)
  | .masterPositionChanged g p => writeMaster g p (s.take e)
  | .masterMuteAction g on => writeMasterMute g on (s.take e)
  | _ => s

/-- What the Move Engine handed a target earlier is taken there, in order, before the target answers a start (R77; log 6). -/
def settleTarget (t : Target) (s : State) : State :=
  (s.handed.filter (isMoveEvent t)).foldl (fun s e => takeMoveEvent e s) s

/-! ## Ends (R82 to R88) -/

/-- The move report mode offers an end with this result (R88). -/
def MoveReports.offers (r : MoveReports) (res : MoveResult) : Bool :=
  match r with
  | .all => true
  | .none => false
  | .exceptions =>
    match res with
    | .completed => false
    | .takenOver => false
    | _ => true

/-- The MOVE_END report of a move's end (R86, R88). -/
def reportEnd (m : Move) (res : MoveResult) (final : Position) (s : State) : State :=
  if s.engine.reports.offers res then s.offer (.moveEnd m.id m.cue m.target res final) else s

/-- The table written. -/
def State.setMoves (s : State) (ms : List Move) : State :=
  { s with engine := { s.engine with moves := ms } }

/-- Every move of the table that `p` picks ends with one result, in table order (R83 to R86). -/
def endWhere (p : Move → Bool) (res : MoveResult) (s : State) : State :=
  (s.engine.moves.filter p).foldl (fun t m => reportEnd m res (finalPosition s m) t)
    (s.setMoves (s.engine.moves.filter fun m => !p m))

/-- A RUNNING move on the target is taken over (R77, R83). -/
def takeOver (t : Target) (s : State) : State :=
  endWhere (fun m => m.isRunning && m.target = t) .takenOver s

/-- MUTE_AT_END as a move completes (R82). -/
def muteAtEnd (m : Move) (s : State) : State :=
  if m.mute = .muteAtEnd then s.hand [muteEvent m.target true] else s

/-- UNMUTE_AT_START as a move starts (R77). -/
def unmuteAtStart (m : Move) (s : State) : State :=
  if m.mute = .unmuteAtStart then s.hand [muteEvent m.target false] else s

/-! ## Starting (R77) -/

/-- The target's answer to a start: its position, or none for a yield (R77, R32, R64). -/
def askStart (t : Target) (s : State) : Option Position × State :=
  let s := settleTarget t s
  match t with
  | .channel c => answerStart c s
  | .master g => (some (s.group g).master, s)

/-- A snap from `start`: its position event, its end and its report (R77, step 5). -/
def snap (m : Move) (start : Position) (res : MoveResult) (s : State) : State :=
  let s := if m.goal = start then s else s.hand [positionEvent m.target m.goal]
  let s := if res = .completed then muteAtEnd m s else s
  reportEnd m res m.goal s

/-- The start of a move without an entry: a snap made at once, or an overflow snap (R74, R77). -/
def startLoose (m : Move) (res : MoveResult) (s : State) : State :=
  match askStart m.target s with
  | (none, s) => reportEnd m .yielded (targetPosition s m.target) s
  | (some p, s) => snap m p res (unmuteAtStart m (takeOver m.target s))

/-- The first move that is due is replaced, or removed. -/
def updateDue (f : Move → Option Move) : List Move → List Move
  | [] => []
  | m :: ms => if m.due then (match f m with | none => ms | some m' => m' :: ms) else m :: updateDue f ms

/-- The channel yielded events for a target that are in flight (R78). -/
def yieldsInFlight (s : State) : Target → Nat
  | .channel c => s.handed.countP fun e => e = .channelYielded c
  | .master _ => 0

/-- The first due move of the table is started; the mark says that it is RUNNING after that (R77). -/
def startDue (s : State) : Option Target × State :=
  match s.engine.moves.find? Move.due with
  | none => (none, s)
  | some m =>
    match askStart m.target s with
    | (none, s) =>
      (none, reportEnd m .yielded (targetPosition s m.target)
        (s.setMoves (updateDue (fun _ => none) s.engine.moves)))
    | (some p, s) =>
      let s := unmuteAtStart m (takeOver m.target s)
      if m.duration = 0 then (none, snap m p .completed (s.setMoves (updateDue (fun _ => none) s.engine.moves)))
      else (some m.target, s.setMoves (updateDue (fun m => some { m with phase := .running 0 p, earlierYields := yieldsInFlight s m.target })
        s.engine.moves))

/-! ## Making (R71 to R75) -/

/-- What became of a move as it was made. -/
inductive Made where
  | passedOver | snapped | overflowed | waiting | ran | notRunning
deriving DecidableEq, Repr

/-- The target is a SAFED channel. -/
def safedTarget (s : State) : Target → Bool
  | .channel c => (s.channel c).safed
  | .master _ => false

/-- The next move id is given (R71). -/
def State.giveId (s : State) : State :=
  { s with engine := { s.engine with nextId := (s.engine.nextId + 1) % 65536 } }

/-- One move is made, placed by R73 or R74, and started when its delay is 0 (R72, R75). A cue passes over SAFED channels. -/
def makeMove (cue : Option Nat) (t : Target) (delay duration : Nat) (goal : Position) (curve : Curve) (mute : MuteAction)
    (s : State) : Made × State :=
  let m : Move :=
    { id := s.engine.nextId, cue := cue, target := t, phase := .waiting delay, duration := duration, goal := goal,
      curve := curve, mute := mute }
  let s := s.giveId
  if cue.isSome && safedTarget s t then (.passedOver, reportEnd m .safed (targetPosition s t) s)
  else if delay = 0 ∧ duration = 0 then (.snapped, startLoose m .completed s)
  else if s.engine.moves.length < Config.maxMoves then
    let s := s.setMoves (s.engine.moves ++ [m])
    if delay = 0 then
      match startDue s with
      | (some _, s) => (.ran, s)
      | (none, s) => (.notRunning, s)
    else (.waiting, s)
  else (.overflowed, startLoose m .overflow s)

/-- The targets of a move record as its cue fires, in ascending order (R72, R67, R93). -/
def expandTargets (s : State) : Targets → List Target
  | .list cs => cs.map .channel
  | .range a b => (allChannels.filter fun c => a ≤ c && c ≤ b).map .channel
  | .members g => (s.group g).members.map .channel
  | .master g => [.master g]

/-- The moves of one record, target by target; the mark gathers overflow snaps (R72). -/
def fireRecord (cue : Nat) (back : Option Nat) (r : MoveRecord) (s : State) : Bool × State :=
  (expandTargets s r.targets).foldl
    (fun (acc : Bool × State) t =>
      let made := makeMove (some cue) t (if back.isSome then 0 else r.delay) (back.getD r.time) r.level r.curve r.mute acc.2
      (acc.1 || made.1 = .overflowed, made.2))
    (false, s)

/-- A cue fire event at the Move Engine (R72, R74). -/
def fireCue (cue : Nat) (records : List MoveRecord) (back : Option Nat) (s : State) : State :=
  let fired := records.foldl
    (fun (acc : Bool × State) r =>
      let one := fireRecord cue back r acc.2
      (acc.1 || one.1, one.2))
    (false, s)
  fired.2.hand [if fired.1 then .occurrence .overflow else .goodEvent .overflow]

/-- One target of a request: a SAFED channel is set directly, any other is given a move. The number counts moves that are now
RUNNING, the mark overflow snaps (R41, R65, R75). -/
def requestOne (duration : Nat) (goal : Position) (curve : Curve) (acc : Nat × Bool × State) (t : Target) :
    Nat × Bool × State :=
  let make := makeMove none t 0 duration goal curve .none acc.2.2
  let moved := (acc.1 + (if make.1 = .ran then 1 else 0), acc.2.1 || make.1 = .overflowed, make.2)
  match t with
  | .channel c => if (acc.2.2.channel c).safed then (acc.1, acc.2.1, directSet c goal acc.2.2) else moved
  | .master _ => moved

/-- The targets of a request, one after the other: the moves entered and still present, and the state; an overflow counts one
occurrence (R75). -/
def requestMoves (ts : List Target) (duration : Nat) (goal : Position) (curve : Curve) (s : State) : Nat × State :=
  let done := ts.foldl (requestOne duration goal curve) (0, false, s)
  (done.1, if done.2.1 then done.2.2.hand [.occurrence .overflow] else done.2.2)

/-! ## Events from the Channel Table (R83, R84) -/

/-- The move is RUNNING on channel `c`. -/
def Move.runsOn (m : Move) (c : ChanNo) : Bool := m.isRunning && m.target = .channel c

/-- A channel yielded event ends the RUNNING move; a move that started after the event was handed only while the channel is
still TOUCHED (R83, R78). -/
def yieldChannel (c : ChanNo) (s : State) : State :=
  let touched : Bool := (s.channel c).owner = .touched
  let s := endWhere (fun m => m.runsOn c && (touched || m.earlierYields = 0)) .yielded s
  s.setMoves (s.engine.moves.map fun m => if m.runsOn c then { m with earlierYields := m.earlierYields - 1 } else m)

/-- A channel made safe event ends every move on the channel (R84). -/
def makeChannelSafe (c : ChanNo) (s : State) : State := endWhere (fun m => m.target = .channel c) .safed s

/-! ## The clock step (R76, R79) -/

/-- A WAITING move one step later. -/
def Move.countDown (m : Move) : Move :=
  match m.phase with
  | .waiting d => { m with phase := .waiting (d - 1) }
  | .running _ _ => m

/-- The due moves start one at a time in table order; the targets whose move is now RUNNING are gathered (R76, R78). -/
def startAllDue : Nat → List Target × State → List Target × State
  | 0, acc => acc
  | n + 1, acc =>
    let one := startDue acc.2
    startAllDue n (one.1.toList ++ acc.1, one.2)

/-- A move that advances at this step: RUNNING and not started at it (R79). -/
def Move.advances (started : List Target) (m : Move) : Bool := m.isRunning && !started.contains m.target

/-- The entry of a move after the step's advance, none when it completes (R79, R82). -/
def Move.advanced (started : List Target) (m : Move) : Option Move :=
  if m.advances started then
    match m.phase with
    | .running e p => if m.duration ≤ e + 1 then none else some { m with phase := .running (e + 1) p }
    | .waiting _ => some m
  else some m

/-- What a move hands on as it advances: its position event, and its completion (R79, R82). -/
def advanceEffects (started : List Target) (s : State) (m : Move) : State :=
  if m.advances started then
    match m.phase with
    | .running e p =>
      let s := if m.positionAt p (e + 1) = m.positionAt p e then s else s.hand [positionEvent m.target (m.positionAt p (e + 1))]
      if m.duration ≤ e + 1 then reportEnd m .completed m.goal (muteAtEnd m s) else s
    | .waiting _ => s
  else s

/-- The advance of the RUNNING moves, in table order (R79). -/
def advanceAll (started : List Target) (s : State) : State :=
  s.engine.moves.foldl (advanceEffects started) (s.setMoves (s.engine.moves.filterMap (Move.advanced started)))

/-- A clock step at the Move Engine; held, it takes none (R76, R79, R87). -/
def engineStep (s : State) : State :=
  if s.engine.held then s
  else
    let s := s.setMoves (s.engine.moves.map Move.countDown)
    let started := startAllDue (s.engine.moves.countP Move.due) ([], s)
    advanceAll started.1 started.2

end Sys2Proof.Machine
end

