-- ==== Sys2Proof/Machine/PlayOps.lean ====
section
/-! DEFINITION. The Cue Sequencer (spec/07_playback.md): the working out of the state, firing, the advance of the standby, the
follow countdown and the schedule list. -/

namespace Sys2Proof.Machine

/-- The sequencer's record written. -/
def State.setSeq (s : State) (q : Sequencer) : State := { s with seq := q }

/-- The state a sequencer outside a hold is in (R109). -/
def Sequencer.workedOut (q : Sequencer) : PlayState :=
  if q.follow.isSome then .following
  else if q.listEmpty then .empty
  else if q.standby.isSome then .ready
  else .ended

/-- The state worked out, unless HELD (R109). -/
def Sequencer.settle (q : Sequencer) : Sequencer :=
  if q.state = .held then q else { q with state := q.workedOut }

/-- The numbers of the cue before, at and after a place. -/
def numberOf (c : Option Cue) : Option Nat := c.map Cue.number

/-- The standby after a fire of `c` that is no BACK (R112). -/
def advanceStandby (cs : List Cue) (c : Cue) : Option Nat :=
  match c.header.link.bind (lookupExact cs) with
  | some l => some l.number
  | none => numberOf (lookupAbove cs c.number)

/-- The follow a fire starts (R111). -/
def followOf (c : Cue) : Option Follow := c.header.follow.map fun f => ⟨f, c.number⟩

/-- A fire of cue `c`, the seven steps of R111 in one; the CUE_FIRED report carries `showTime` (R125): in a clock step the time
that the step carries, in a request the clock's present one (DESIGN CHOICE, log 37). -/
def fire (c : Cue) (cause : Cause) (showTime : Nat) (s : State) : State :=
  let s := s.hand [.cueFire c.number c.records none]
  let s := if c.header.age then s.hand [.rotation] else s
  let q : Sequencer :=
    { s.seq with lastFired := some c.number, standby := advanceStandby s.store.cues c, follow := followOf c }
  (s.setSeq q.settle).offer (.cueFired c.number cause q.standby c.header.follow showTime)

/-- A fire of cue `b` by BACK (R116). -/
def fireBack (b : Cue) (showTime : Nat) (s : State) : State :=
  let s := s.hand [.cueFire b.number b.records (some s.seq.backTime)]
  let q : Sequencer :=
    { s.seq with lastFired := some b.number, standby := numberOf (lookupAbove s.store.cues b.number), follow := none }
  (s.setSeq q.settle).offer (.cueFired b.number .back q.standby none showTime)

/-- The list edited event at the sequencer (R100, R110). `above` is the lowest cue above a deleted one. -/
def Sequencer.edited (q : Sequencer) (above : Nat → Option Nat) (e : Edit) (count : Nat) : Sequencer :=
  let q := { q with listEmpty := count = 0 }
  match e with
  | .added n true => { q with standby := some n }
  | .added _ false => q
  | .replaced _ => q
  | .deleted n => if q.standby = some n then { q with standby := above n } else q
  | .cleared => { q with standby := none, lastFired := none }

/-- HELD is entered and the playback held event handed; in HELD nothing changes (R117, R119). -/
def enterHeld (s : State) : State :=
  if s.seq.state = .held then s else (s.setSeq { s.seq with state := .held }).hand [.playbackHeld]

/-- The follow expires: the standby fires, or playback has ended (R113). -/
def expireFollow (showTime : Nat) (s : State) : State :=
  let s := s.setSeq { s.seq with follow := none }
  match s.seq.standby.bind (lookupAtOrAbove s.store.cues) with
  | some c => fire c .follow showTime s
  | none =>
    let q := { s.seq with standby := none }
    s.setSeq q.settle

/-- The countdown at a clock step outside a hold (R113). -/
def countFollow (showTime : Nat) (s : State) : State :=
  match s.seq.follow with
  | none => s
  | some f =>
    if f.countdown ≤ 1 then expireFollow showTime s
    else s.setSeq { s.seq with follow := some { f with countdown := f.countdown - 1 } }

/-- The trigger comes due at this show time (R123). -/
def Trigger.comesDue (showTime : Nat) (t : Trigger) : Bool := !t.due && t.time ≤ showTime

/-- A trigger fires as GOTO with the fire option, or is reported MISSED (R123, R118). The reports carry `showTime` (R125): in a
clock step the time that the step carries (DESIGN CHOICE, log 37). -/
def fireTrigger (cause : Cause) (late : Bool) (showTime : Nat) (t : Trigger) (s : State) : State :=
  match lookupExact s.store.cues t.cue with
  | some c =>
    let s := if late then s.offer (.schedule true t.cue t.time showTime) else s
    fire c cause showTime s
  | none => s.offer (.schedule false t.cue t.time showTime)

/-- The schedule list written. -/
def State.setSchedule (s : State) (ts : List Trigger) : State := s.setSeq { s.seq with schedule := ts }

/-- The schedule list examined at a clock step (R123). -/
def examineSchedule (showTime : Nat) (s : State) : State :=
  if s.seq.state = .held then
    s.setSchedule (s.seq.schedule.map fun t => if t.comesDue showTime then { t with due := true } else t)
  else
    (s.seq.schedule.filter (Trigger.comesDue showTime)).foldl (fun s t => fireTrigger .schedule false showTime t s)
      (s.setSchedule (s.seq.schedule.filter fun t => !t.comesDue showTime))

/-- A clock step at the sequencer: the countdown first, then the schedule list (R113, R123). Its reports carry the show time that
the step carries (DESIGN CHOICE, log 37). -/
def sequencerStep (showTime : Nat) (s : State) : State :=
  examineSchedule showTime (if s.seq.state = .held then s else countFollow showTime s)

/-- A trigger put after every trigger at or below its time (R121). -/
def insertTrigger (t : Trigger) : List Trigger → List Trigger
  | [] => [t]
  | u :: us => if t.time < u.time then t :: u :: us else u :: insertTrigger t us

/-- The end of a hold by RESUME: the state, the event, then the DUE triggers in list order (R118). The numbers are those
fired late and missed. -/
def endHold (s : State) : (Nat × Nat) × State :=
  let dues := s.seq.schedule.filter Trigger.due
  let s := s.setSeq { s.seq with state := s.seq.workedOut, schedule := s.seq.schedule.filter fun t => !t.due }
  let s := s.hand [.playbackResumed]
  let found := dues.countP fun t => (lookupExact s.store.cues t.cue).isSome
  ((found, dues.length - found), dues.foldl (fun s t => fireTrigger .scheduleLate true s.clock.showTime t s) s)

/-- A show time set event (R124). Its reports carry the clock's present show time (DESIGN CHOICE, log 37). -/
def jumpShowTime (old new : Nat) (s : State) : State :=
  if old < new then
    let passed := s.seq.schedule.filter (Trigger.comesDue new)
    passed.foldl (fun s t => s.offer (.schedule false t.cue t.time s.clock.showTime))
      (s.setSchedule (s.seq.schedule.filter fun t => !t.comesDue new))
  else s

end Sys2Proof.Machine
end

