-- ==== Sys2Proof/Machine/TrimOps.lean ====
section
/-! DEFINITION. The Trim Memory (spec/03_trim_memory.md): roles, reading and writing of tables, rotation, and the Current trim
changed events of an operation (R49). -/

namespace Sys2Proof.Machine

/-- The table after another in the order the roles rotate (R51). -/
def TrimTable.succ : TrimTable → TrimTable
  | .a => .b
  | .b => .c
  | .c => .a

/-- The table playing Next (R47). -/
def TrimMemory.next (m : TrimMemory) : TrimTable := m.current.succ

/-- The table playing Spare (R47). -/
def TrimMemory.spare (m : TrimMemory) : TrimTable := m.current.succ.succ

/-- The trims of a table. -/
def TrimMemory.table (m : TrimMemory) : TrimTable → Vector Trim 96
  | .a => m.a
  | .b => m.b
  | .c => m.c

/-- The memory with the trims of a table written. -/
def TrimMemory.setTable (m : TrimMemory) (n : TrimTable) (v : Vector Trim 96) : TrimMemory :=
  match n with
  | .a => { m with a := v }
  | .b => { m with b := v }
  | .c => { m with c := v }

/-- A channel's trim in Current. -/
def TrimMemory.inCurrent (m : TrimMemory) (c : ChanNo) : Trim := (m.table m.current)[c]

/-- A channel's trim in Next. -/
def TrimMemory.inNext (m : TrimMemory) (c : ChanNo) : Trim := (m.table m.next)[c]

/-- A trim written into one table. -/
def TrimMemory.put (m : TrimMemory) (n : TrimTable) (c : ChanNo) (t : Trim) : TrimMemory :=
  m.setTable n ((m.table n).set c t)

/-- A trim written into Current and Next (R50, R54). -/
def TrimMemory.write (m : TrimMemory) (c : ChanNo) (t : Trim) : TrimMemory :=
  (m.put m.current c t).put m.next c t

/-- A table of no trims. -/
def noTrims : Vector Trim 96 := Vector.replicate 96 Trim.zero

/-- One rotation: Current is cleared and becomes Spare, Next becomes Current, Spare becomes Next (R51). -/
def TrimMemory.rotate (m : TrimMemory) : TrimMemory :=
  { m.setTable m.current noTrims with current := m.next }

/-- One channel's trim set to 0 in all three tables (R56). -/
def TrimMemory.clearChannel (m : TrimMemory) (c : ChanNo) : TrimMemory :=
  ((m.put .a c Trim.zero).put .b c Trim.zero).put .c c Trim.zero

/-- Every trim set to 0, the roles kept (R56, R58). -/
def TrimMemory.clearAll (m : TrimMemory) : TrimMemory :=
  { m with a := noTrims, b := noTrims, c := noTrims }

/-- The channels whose trim in Current an operation changed (R49). -/
def trimChanges (old new : TrimMemory) : List ChanNo :=
  allChannels.filter fun c => new.inCurrent c ≠ old.inCurrent c

/-- An operation at the Trim Memory: the memory after it, and an event to each channel whose trim in Current changed (R49). -/
def State.setTrims (s : State) (m : TrimMemory) : State :=
  { s with trims := m }.hand ((trimChanges s.trims m).map fun c => .currentTrimChanged c (m.inCurrent c))

end Sys2Proof.Machine
end

