-- ==== Sys2Proof/Machine/ResetOps.lean ====
section
/-! DEFINITION. Resets (R195 and the reset rule of each chapter): power-on, RESET ALL and the three partial scopes. -/

namespace Sys2Proof.Machine

/-! ## Power-on and RESET ALL -/

/-- Every block at its values after power-on. The commands that wait stay, events in flight are dropped, what stands on the
surface bus stands there still (log 23), and the internal time base stands at `now` (log 22). -/
def powered (lineRate now : Nat) (s : State) : State :=
  { State.reset with
    pending := s.pending
    sent := s.sent ++ poweredHellos
    port := { lineRate := lineRate }
    surface := { bus := s.surface.bus }
    clock := { now := now } }

/-- The line rate the straps select, as IDENT carries it (spec/00_scope.md 4, R184, R194). RATE1 is read as the left digit of
the codes of R184 (DESIGN CHOICE, log 35). -/
def strapRate (rate1 rate0 : Bool) : Nat := if rate1 then 2 else if rate0 then 1 else 0

/-! ## Events of the Cue Sequencer at the Move Engine (R85, R87) -/

/-- A cancellation (R85). -/
def cancelMoves (s : State) : State := endWhere (fun _ => true) .cancelled s

/-- The held mark written (R87). -/
def setHeldMark (on : Bool) (s : State) : State := { s with engine := { s.engine with held := on } }

/-- The event is one the Cue Sequencer hands to the Move Engine. -/
def isEngineOrder : Instr → Bool
  | .cueFire _ _ _ => true
  | .cancellation => true
  | .playbackHeld => true
  | .playbackResumed => true
  | _ => false

/-- An event of the Cue Sequencer taken at the Move Engine. -/
def takeEngineOrder (e : Instr) (s : State) : State :=
  match e with
  | .cueFire n rs back => fireCue n rs back (s.take e)
  | .cancellation => cancelMoves (s.take e)
  | .playbackHeld => setHeldMark true (s.take e)
  | .playbackResumed => setHeldMark false (s.take e)
  | _ => s

/-- What the Cue Sequencer handed earlier is taken at the Move Engine, in order (R87; log 7). -/
def settleEngine (s : State) : State :=
  (s.handed.filter isEngineOrder).foldl (fun s e => takeEngineOrder e s) s

/-! ## RESET PLAYBACK -/

/-- Steps 2 to 4 of R128 at the sequencer. -/
def Sequencer.rewound (q : Sequencer) (first : Option Nat) : Sequencer :=
  { q with schedule := [], follow := none, lastFired := none, standby := first }

/-- Step 5 of R128: a hold without an action in force ends, and the state is worked out. The playback resumed event that it hands
the Move Engine is taken there within the reset step: the engine's held mark ends at once, and the event is never in flight
(R89, R87 leave open when it is taken: DESIGN CHOICE, log 44). -/
def endHoldAtReset (s : State) : State :=
  if s.seq.state = .held then
    if holds s.seq.action then s else setHeldMark false (s.setSeq { s.seq with state := s.seq.workedOut })
  else s.setSeq s.seq.settle

/-- A channel in MANUAL or GLIDE begins a glide anew (R46). -/
def restartGlide (c : ChanNo) (s : State) : State :=
  match (s.channel c).owner with
  | .manual => startGlide c s
  | .glide _ => startGlide c s
  | _ => s

/-- RESET PLAYBACK (R128, R89, R58, R46). A glide of R46 begins from the working trim in force, before the channel takes the
current trim changed event of the cleared tables (DESIGN CHOICE, log 36). -/
def resetPlaybackNow (s : State) : State :=
  let s := cancelMoves (settleEngine s)
  let s := endHoldAtReset (s.setSeq (s.seq.rewound (numberOf (lookupFirst s.store.cues))))
  (s.setTrims s.trims.clearAll).forChannels restartGlide

/-! ## RESET SURFACE -/

/-- The event is one the Surface Controller hands to channel `c`. -/
def isSurfaceEvent (c : ChanNo) : Instr → Bool
  | .touchEvent d _ _ => c = d
  | .operatorPosition d _ _ => c = d
  | .releaseEvent d _ _ => c = d
  | .stripAssigned d _ => c = d
  | .stripReleased d _ => c = d
  | _ => false

/-- An event of the Surface Controller taken at its channel. -/
def takeSurfaceEvent (e : Instr) (s : State) : State :=
  match e with
  | .touchEvent c _ p => touchChannel c p (s.take e)
  | .operatorPosition c _ p => operatorAt c p (s.take e)
  | .releaseEvent c _ reset => releaseChannel c reset (s.take e)
  | .stripAssigned c n => assignStrip c n (s.take e)
  | .stripReleased c n => releaseStrip c n (s.take e)
  | _ => s

/-- What the Surface Controller handed a channel earlier is taken there, in order (R44; log 7). -/
def settleChannel (c : ChanNo) (s : State) : State :=
  (s.handed.filter (isSurfaceEvent c)).foldl (fun s e => takeSurfaceEvent e s) s

/-- Step 1 of R159 at a strip: a release under RETURN, and the TOUCH report. -/
def dropTouch (s : State) (n : StripNo) : State :=
  let r := s.strip n
  match r.state, r.channel with
  | .touched still, some c => reportTouch n true still.isSome (releaseChannel c true (settleChannel c s))
  | _, _ => s

/-- The record of a strip after step 3 of R159. -/
def Strip.recalibrated (r : Strip) : Strip :=
  { r with state := .calibrating {}, reading := false, onRun := 0, offRun := 0, timeouts := 0 }

/-- Step 3 of R159 at a strip; a strip that leaves ABSENT, or DISABLED out of a calibration that remembers it too (R146), reports
it (R156; log 26). -/
def recalibrate (s : State) (n : StripNo) : State :=
  let r := s.strip n
  let s := s.setStrip n r.recalibrated
  if r.state = .absent ∨ r.motorCondition then reportStrip n r.state s else s

/-- RESET SURFACE (R159). -/
def resetSurfaceNow (s : State) : State :=
  let failed := motorPresent s.surface
  let s := allStrips.foldl dropTouch s
  let s := { s with surface := { s.surface with activeBank := 0, settings := {} } }
  let s := allStrips.foldl recalibrate s
  assignmentPass (if failed then s.hand [.goodEvent .motor] else s)

/-! ## RESET LINKS -/

/-- One link as RESET LINKS leaves it: as at power-on with its source tripped mark, training anew (R174). -/
def resetLink (s : State) (l : LinkNo) : State :=
  let r := s.link l
  reportLink l r.state (beginTraining l (s.setLink l { ownMap := defaultMap l, tripped := r.tripped }))

/-- RESET LINKS (R174). -/
def resetLinksNow (s : State) : State := allLinks.foldl resetLink s

/-! ## The reset of a scope (R195) -/

/-- The reset of a scope acts. -/
def resetScope (scope : Scope) (s : State) : State :=
  match scope with
  | .playback => resetPlaybackNow s
  | .surface => resetSurfaceNow s
  | .links => resetLinksNow s
  | .all => powered s.port.lineRate s.clock.now s

end Sys2Proof.Machine
end

