-- ==== Sys2Proof/Machine/PortOps.lean ====
section
/-! DEFINITION. The Control Port (spec/12_the_control_port.md): the receiver, the inbound queue, requests and replies, the
transmitter, the heartbeat timer, and what the part works off when no command waits. -/

namespace Sys2Proof.Machine

/-- The port's record written. -/
def State.setPort (s : State) (p : Port) : State := { s with port := p }

/-! ## The receiver (R185, R186) -/

/-- The partial frame is dropped: FRAME_ERROR, HUNT and one FRAME occurrence (R185). -/
def discardFrame (s : State) : State :=
  (s.setPort { s.port with receiver := .hunt, flags := { s.port.flags with frameError := true } }).hand [.occurrence .frame]

/-- The inbound queue takes a good frame, or is overrun (R186). -/
def Port.enqueue (p : Port) (r : Request) : Port :=
  if p.inbound.length < Config.maxInbound then { p with inbound := p.inbound ++ [r] }
  else { p with flags := { p.flags with overrun := true } }

/-- A good frame: the good event, the inbound queue, HUNT (R185). -/
def goodFrame (r : Request) (s : State) : State :=
  (s.setPort ({ s.port with receiver := .hunt }.enqueue r)).hand [.goodEvent .frame]

/-- The bytes after the sync byte of a completed frame whose CRC agrees and whose KIND is 1, as a request (R185, R196). -/
def requestOf (got : List Byte) : Option Request :=
  let body := (got.drop 1).take (got.length - 3)
  match body with
  | kind :: tag :: code :: _ :: payload =>
    if kind = 1 ∧ got.drop (got.length - 2) = crcBytes body then some { tag, code, payload } else none
  | _ => none

/-- A byte taken in FRAME, `got` being the bytes after the sync byte with it (R185). -/
def takeByte (got : List Byte) (s : State) : State :=
  let len := ((got.head?).getD 0).toNat
  if Config.maxPayload < len then discardFrame s
  else if got.length < len + 7 then s.setPort { s.port with receiver := .frame got }
  else
    match requestOf got with
    | some r => goodFrame r s
    | none => discardFrame s

/-- A byte at the receiver (R185). -/
def receiveByte (b : Byte) (s : State) : State :=
  match s.port.receiver with
  | .hunt => if b = 0xA5 then s.setPort { s.port with receiver := .frame [] } else s
  | .frame got => takeByte (got ++ [b]) s

/-- A line error or a gap at the receiver (R185). -/
def breakFrame (s : State) : State :=
  match s.port.receiver with
  | .hunt => s
  | .frame _ => discardFrame s

/-! ## The transmitter (R187, R188) -/

/-- Frames of a reply. -/
def Reply.frames (r : Reply) : Nat := max 1 ((r.payload.length + Config.maxPayload - 1) / Config.maxPayload)

/-- STATUS byte of frame `k` of a reply. -/
def Reply.statusByte (r : Reply) (k : Nat) : Byte :=
  BitVec.ofNat 8 (statusCode r.status + (if k + 1 < r.frames then 64 else 0) + (if r.busy then 128 else 0))

/-- Frame `k` of a reply. -/
def Reply.frame (r : Reply) (k : Nat) : List Byte :=
  frameBytes 2 r.tag r.code (r.statusByte k) ((r.payload.drop (k * Config.maxPayload)).take Config.maxPayload)

/-- The reply buffer as the sending of its next frame begins: it empties with the last. -/
def Reply.advance (r : Reply) : Option Reply := if r.next + 1 < r.frames then some { r with next := r.next + 1 } else none

/-- The sending of the next reply frame begins (R188). -/
def beginReply (r : Reply) (s : State) : State :=
  (s.setPort { s.port with reply := r.advance, sending := some .reply }).emit (.control (r.frame r.next))

/-- The frame of a report. -/
def reportBytes (r : Report) : List Byte := frameBytes 3 0 (BitVec.ofNat 8 (reportCode r.kind)) 0 r.payload

/-- The idle transmitter takes the oldest report (R188). -/
def beginReport (s : State) : State :=
  match s.port.reports with
  | [] => s
  | r :: rs => (s.setPort { s.port with reports := rs, sending := some .report }).emit (.control (reportBytes r))

/-- The frames of the reply buffer are sent one after the other, until the last has begun; `k` bounds them. -/
def sendReply : Nat → State → State
  | 0, s => s
  | k + 1, s =>
    match s.port.reply with
    | none => s
    | some r => sendReply k (beginReply r s)

/-- The transmitter has sent all of the reply buffer's frames but the end of the last. -/
def replyOut (s : State) : State :=
  match s.port.reply with
  | none => s
  | some r => sendReply r.frames s

/-- The last byte of a reply's frame has left the line; a report's frame stays on it (R195). -/
def Port.replyLeft (p : Port) : Port := { p with sending := if p.sending = some .reply then none else p.sending }

/-- A RESET that waits acts, its reply having left the line (R195). -/
def takeReset (s : State) : State :=
  match s.port.resetWaiting with
  | none => s
  | some scope =>
    let s := replyOut s
    resetScope scope (s.setPort { s.port.replyLeft with resetWaiting := none })

/-! ## Requests and replies (R186, R187) -/

/-- The port is ready for a request: the reply before it is out, and a RESET before it has acted (R186, R195; log 3). -/
def portReady (s : State) : State := if s.port.resetWaiting.isSome then takeReset s else replyOut s

/-- A request that stands at the head of the inbound queue leaves it as it is taken (R186). -/
def popRequest (c : Instr) (s : State) : State :=
  match s.port.inbound with
  | r :: rs => if commandOf r = c then s.setPort { s.port with inbound := rs } else s
  | [] => s

/-- The state in which a request is executed. -/
def taken (c : Instr) (s : State) : State := popRequest c (portReady s)

/-- A reply is made (R186, R187). -/
def answer (tag : Byte) (code : Byte) (st : Status) (payload : List Byte) (s : State) : State :=
  s.setPort { s.port with reply := some { tag := tag, code := code, status := st, busy := portBusy s.port, payload := payload } }

/-- The outcome of a request's rule: a refusal, or the payload of its OK reply and the state after it. -/
abbrev Ruling := Except Status (List Byte × State)

/-- The reply to a ruling; a refused request changes nothing (R187). -/
def conclude (tag : Byte) (code : Byte) (s : State) : Ruling → State
  | .error st => answer tag code st [] s
  | .ok done => answer tag code .ok done.1 done.2

/-- A request executed by its rule, once its length is judged (R187). -/
def judge {α : Type} (tag : Byte) (code : Byte) (form : Form α) (rule : α → State → Ruling) (s : State) : State :=
  match form with
  | .wrongLength => answer tag code .badLength [] s
  | .fields a => conclude tag code s (rule a s)

/-- A refusal with RANGE where a check yields nothing. -/
def orRange {α : Type} (o : Option α) : Except Status α :=
  match o with
  | some a => .ok a
  | none => .error .range

/-- A refusal where a condition holds. -/
def refuseIf (b : Bool) (st : Status) : Except Status Unit := if b then .error st else .ok ()

/-! ## The heartbeat (R192) -/

/-- A clock step at the port (R192). -/
def portStep (s : State) : State :=
  let h := s.port.heartbeat
  match h.timer with
  | none => s
  | some t =>
    if h.upper ≤ t + 1 then
      (s.setPort { s.port with heartbeat := { h with timer := some 0 } }).hand [.occurrence .watchdog]
    else s.setPort { s.port with heartbeat := { h with timer := some (t + 1) } }

/-! ## What the part does when no command waits (log 2) -/

/-- The port's own next action: a RESET takes effect, a request is taken, or the transmitter goes on. -/
def portOwn (p : Port) : Option Instr :=
  if p.resetWaiting.isSome ∧ p.reply = none ∧ p.sending ≠ some .reply then some .resetTakesEffect
  else
    match p.inbound, p.reply, p.resetWaiting, p.sending with
    | r :: _, none, none, _ => some (commandOf r)
    | _, _, _, some _ => some .frameSent
    | _, some _, _, none => some .replyFrame
    | _, none, _, none => if p.reports = [] then none else some .reportFrame

/-- The lowest link of which a frame is due now (R168). -/
def frameDue (s : State) : Option Instr :=
  (allLinks.find? fun l => (s.link l).maySend s.clock.now).map fun l => .updateFrame l s.clock.now

/-- What the part does next of itself: the oldest event in flight is taken, then a clock step that is due comes, then a scan that
is due, then a frame that is due, then the port goes on. -/
def nextOwn (s : State) : Option Instr :=
  match s.handed with
  | e :: _ => some e
  | [] => (stepDue s).or ((scanDue s).or ((frameDue s).or (portOwn s.port)))

end Sys2Proof.Machine
end

