-- ==== Sys2Proof/Machine/Channels.lean ====
section
/-! DEFINITION. The commands of the Channel Table (spec/01_levels_and_the_gain_law.md,
spec/02_channels_and_operator_control.md). -/

namespace Sys2Proof.Machine

/-! ## Requests -/

/-- The rule of CHAN_SET (R41). -/
def ruleChanSet (f : ChanSetFields) (s : State) : Ruling := do
  let cs ← orRange (listOf? 16 96 f.channels)
  let level ← orRange (positionOf? f.level)
  let time ← orRange (timeOf? f.time)
  let curve ← orRange (curveOf? f.curve)
  let done := requestMoves (cs.map .channel) time level curve s
  .ok (byte done.1, done.2)

/-- CHAN_SET (R41). -/
def execChanSet (tag : Byte) (form : Form ChanSetFields) (s : State) : Result :=
  .next (judge tag 0x30 form ruleChanSet (taken (.chanSet tag form) s))

/-- The fields of CHAN_CONFIG, checked (R42). -/
structure ChanSettings where
  staticTrim : Option Int
  releaseMode : Option ReleaseMode
  touchPolicy : Option TouchPolicy
  safeLevel : Option (Option Position)
  safed : Option Bool

/-- A static trim, −200 to +100 (R42). -/
def staticTrimOf? (x : Int) : Option Int := if -200 ≤ x ∧ x ≤ 100 then some x else none

/-- The check of CHAN_CONFIG's fields (R42). -/
def chanSettingsOf? (f : ChanConfigFields) : Option ChanSettings := do
  let staticTrim ← present? staticTrimOf? f.staticTrim
  let releaseMode ← present? releaseModeOf? f.releaseMode
  let touchPolicy ← present? touchPolicyOf? f.touchPolicy
  let safeLevel ← present? (present? positionOf?) f.safeLevel
  let safed ← present? markOf? f.safed
  some { staticTrim, releaseMode, touchPolicy, safeLevel, safed }

/-- An optional field written where it is present. -/
def ifPresent {α : Type} (o : Option α) (write : α → State → State) (s : State) : State :=
  match o with
  | some a => write a s
  | none => s

/-- The present fields written into one channel. R42 gives their effects without an order: static trim, safe level and SAFED act
in this one (DESIGN CHOICE, log 38). -/
def configureChannel (x : ChanSettings) (s : State) (c : ChanNo) : State :=
  let s := ifPresent x.staticTrim (writeStaticTrim c) s
  let s := ifPresent x.releaseMode (fun m s => s.setChannel c { s.channel c with releaseMode := m }) s
  let s := ifPresent x.touchPolicy (fun p s => s.setChannel c { s.channel c with touchPolicy := p }) s
  let s := ifPresent x.safeLevel (writeSafeLevel c) s
  ifPresent x.safed (writeSafed c) s

/-- The rule of CHAN_CONFIG (R42). -/
def ruleChanConfig (f : ChanConfigFields) (s : State) : Ruling := do
  let cs ← orRange (rangeOf? 96 16 f.first f.count)
  let x ← orRange (chanSettingsOf? f)
  .ok ([], cs.foldl (configureChannel x) s)

/-- CHAN_CONFIG (R42). -/
def execChanConfig (tag : Byte) (form : Form ChanConfigFields) (s : State) : Result :=
  .next (judge tag 0x31 form ruleChanConfig (taken (.chanConfig tag form) s))

/-- Code of an ownership state (R196). -/
def ownerCode : Owner → Nat
  | .auto => 0
  | .touched => 1
  | .glide _ => 2
  | .manual => 3
  | .forced _ => 4

/-- Code of a forced mode, 0 where absent (R196). -/
def forcedCode : Owner → Nat
  | .forced .frozen => 1
  | .forced (.safeGlide _) => 2
  | .forced .atSafe => 3
  | _ => 0

/-- The glide fields of a state, where present (R21). -/
def glideOf : Owner → Option Glide
  | .glide g => some g
  | .forced (.safeGlide g) => some g
  | _ => none

/-- Code of a release mode (R196). -/
def releaseModeCode : ReleaseMode → Nat
  | .ret => 0
  | .learn => 1
  | .latch => 2

/-- Code of a touch policy (R196). -/
def touchPolicyCode : TouchPolicy → Nat
  | .shadow => 0
  | .yield => 1

/-- Flags of a channel readout record (R196). -/
def channelFlags (r : Channel) (muted : Bool) : Nat :=
  (if r.ownMute then 1 else 0) + (if muted then 2 else 0) + (if r.safed then 4 else 0) + (if r.clip then 8 else 0) +
    (if r.settled then 16 else 0)

/-- The channel readout record of 35 bytes (R196). -/
def channelBytes (s : State) (c : ChanNo) : List Byte :=
  let r := s.channel c
  let g := glideOf r.owner
  byte c.val ++ byte (ownerCode r.owner) ++ byte (forcedCode r.owner) ++ byte (channelFlags r (effectiveMute s c)) ++
    byte (releaseModeCode r.releaseMode) ++ byte (touchPolicyCode r.touchPolicy) ++
    bytesOf 2 r.pAuto.val ++ bytesOf 2 r.pOp.val ++ bytesOf 2 r.pEff.val ++ bytesOf 2 r.releasePos.val ++
    positionBytes (g.map Glide.origin) ++ optBytes 2 (g.map Glide.progress) ++ optBytes 2 (g.map Glide.length) ++
    positionBytes r.safeLevel ++ numberByte r.strip ++ signed 2 r.workingTrim.val ++ signed 2 r.staticTrim ++
    gainBytes r.gain ++ signed 2 r.mute ++ gainBytes r.target ++ gainBytes r.output

/-- The rule of CHAN_READ (R43). -/
def ruleChanRead (f : RangeFields) (s : State) : Ruling := do
  let cs ← orRange (rangeOf? 96 16 f.first f.count)
  .ok (cs.flatMap (channelBytes s), s)

/-- CHAN_READ (R43). -/
def execChanRead (tag : Byte) (form : Form RangeFields) (s : State) : Result :=
  .next (judge tag 0x32 form ruleChanRead (taken (.chanRead tag form) s))

/-- The rule of MUTE_SET (R40). -/
def ruleMuteSet (f : MuteFields) (s : State) : Ruling := do
  let cs ← orRange (listOf? 16 96 f.list)
  let on ← orRange (markOf? f.value)
  .ok ([], cs.foldl (fun s c => setOwnMute c on s) s)

/-- MUTE_SET (R40). -/
def execMuteSet (tag : Byte) (form : Form MuteFields) (s : State) : Result :=
  .next (judge tag 0x33 form ruleMuteSet (taken (.muteSet tag form) s))

/-- The rule of CHAN_RELEASE: R35 refuses a length that fits no list of 1 to 16 with BAD_LENGTH (log 17). -/
def ruleChanRelease (ns : List Nat) (s : State) : Ruling := do
  refuseIf (ns.length = 0 || 16 < ns.length) .badLength
  let cs ← orRange (distinctOf? 96 ns)
  let manual := cs.filter fun c => (s.channel c).owner = .manual
  .ok (byte manual.length, manual.foldl (fun s c => startGlide c s) s)

/-- CHAN_RELEASE (R35). -/
def execChanRelease (tag : Byte) (form : Form (List Nat)) (s : State) : Result :=
  .next (judge tag 0x34 form ruleChanRelease (taken (.chanRelease tag form) s))

/-- M jumps to its goal at a channel as the ramp time becomes 0 (R8, R17). -/
def jumpMute (c : ChanNo) (s : State) : State :=
  let r := s.channel c
  if r.frozen then s
  else if r.mute = r.muteGoal then s
  else writeLevel c (r.gain, r.clip) r.muteGoal r.muteGoal s

/-- The level settings written, with their effect on work in flight (R17). -/
def writeLevels (l : Levels) (s : State) : State :=
  let old := s.levels
  let s := { s with levels := l }
  if l.muteRamp = 0 ∧ old.muteRamp ≠ 0 then s.forChannels jumpMute else s

/-- Payload of the LEVEL_CONFIG reply (R16). -/
def levelBytes (l : Levels) : List Byte := bytesOf 2 l.glideTime ++ bytesOf 2 l.muteRamp ++ bytesOf 2 l.slew

/-- The rule of LEVEL_CONFIG (R16). -/
def ruleLevelConfig (f : Option LevelFields) (s : State) : Ruling :=
  match f with
  | none => .ok (levelBytes s.levels, s)
  | some f => do
    let glideTime ← orRange (within? 0 10000 f.glide)
    let muteRamp ← orRange (within? 0 500 f.ramp)
    let slew ← orRange (within? 1 900 f.slew)
    .ok (levelBytes { glideTime, muteRamp, slew }, writeLevels { glideTime, muteRamp, slew } s)

/-- LEVEL_CONFIG (R16). -/
def execLevelConfig (tag : Byte) (form : Form (Option LevelFields)) (s : State) : Result :=
  .next (judge tag 0x35 form ruleLevelConfig (taken (.levelConfig tag form) s))

/-! ## Clock steps -/

/-- The next clock step handed to a channel, taken there (R11). -/
def takeChannelStep (c : ChanNo) (s : State) : State := channelStep c (s.take (s.nextStep (.channelClockStep c ·)))

/-- CHANNEL_CLOCK_STEP (R11). -/
def execChannelClockStep (c : ChanNo) (s : State) (showTime : Nat := 0) : Result :=
  .next (channelStep c (s.take (.channelClockStep c showTime)))

/-- The running glide of a channel in GLIDE ends at the next step (R34). -/
def glideEnds : Owner → Bool
  | .glide g => g.length ≤ g.progress + 1
  | _ => false

/-- The running safe glide of a FORCED channel ends at the next step (R34). -/
def safeGlideEnds : Owner → Bool
  | .forced (.safeGlide g) => g.length ≤ g.progress + 1
  | _ => false

/-- GLIDE_END: the clock step at which g reaches the glide length; nothing where it does not (R34; log 4). -/
def execGlideEnd (c : ChanNo) (s : State) : Result :=
  .next (if glideEnds (s.channel c).owner then takeChannelStep c s else s)

/-- SAFE_GLIDE_END: the clock step at which g reaches the glide length; nothing where it does not (R34; log 4). -/
def execSafeGlideEnd (c : ChanNo) (s : State) : Result :=
  .next (if safeGlideEnds (s.channel c).owner then takeChannelStep c s else s)

/-- SETTLED brought up to date at a channel whose O equals T (R12, R14). -/
def settleNow (c : ChanNo) (s : State) : State :=
  let r := s.channel c
  announceSettling c (s.setChannel c { r with settled := true })

/-- SETTLING of an unsettled channel: SETTLED is set where O equals T, else the clock step that brings O to T is taken;
nothing where neither settles it (R12, R14; log 4). -/
def execSettling (c : ChanNo) (s : State) : Result :=
  let r := s.channel c
  .next (if r.settled then s
    else if r.output = r.target then settleNow c s
    else if ((takeChannelStep c s).channel c).settled then takeChannelStep c s
    else s)

/-! ## Events -/

/-- AUTOMATION_POSITION_CHANGED (R24). -/
def execAutomationPositionChanged (c : ChanNo) (p : Position) (s : State) : Result :=
  .next (automationAt c p (s.take (.automationPositionChanged c p)))

/-- CURRENT_TRIM_CHANGED (R25, R48). -/
def execCurrentTrimChanged (c : ChanNo) (t : Trim) (s : State) : Result :=
  .next (workingTrimAt c t (s.take (.currentTrimChanged c t)))

/-- TOUCH_EVENT (R26, R27). -/
def execTouchEvent (c : ChanNo) (strip : StripNo) (p : Position) (s : State) : Result :=
  .next (touchChannel c p (s.take (.touchEvent c strip p)))

/-- OPERATOR_POSITION (R28). -/
def execOperatorPosition (c : ChanNo) (strip : StripNo) (p : Position) (s : State) : Result :=
  .next (operatorAt c p (s.take (.operatorPosition c strip p)))

/-- RELEASE_EVENT (R29). -/
def execReleaseEvent (c : ChanNo) (strip : StripNo) (reset : Bool) (s : State) : Result :=
  .next (releaseChannel c reset (s.take (.releaseEvent c strip reset)))

/-- EFFECTIVE_ACTION_CHANGED (R36 to R38). -/
def execEffectiveActionChanged (c : ChanNo) (a : Action) (s : State) : Result :=
  .next (actionAtChannel c a (s.take (.effectiveActionChanged c a)))

/-- MUTE_KEY_EVENT (R40). -/
def execMuteKeyEvent (c : ChanNo) (s : State) : Result :=
  .next (setOwnMute c (!(s.channel c).ownMute) (s.take (.muteKeyEvent c)))

/-- MUTE_ACTION (R40). -/
def execMuteAction (c : ChanNo) (on : Bool) (s : State) : Result := .next (setOwnMute c on (s.take (.muteAction c on)))

/-- MASTER_CHANGED (R6). -/
def execMasterChanged (c : ChanNo) (g : GroupNo) (s : State) : Result := .next (relevel c (s.take (.masterChanged c g)))

/-- MASTER_MUTE_CHANGED (R7). -/
def execMasterMuteChanged (c : ChanNo) (g : GroupNo) (s : State) : Result :=
  .next (remute c false (s.take (.masterMuteChanged c g)))

/-- JOINED_GROUP (R62). -/
def execJoinedGroup (c : ChanNo) (g : GroupNo) (s : State) : Result := .next (remute c true (s.take (.joinedGroup c g)))

/-- LEFT_GROUP (R62). -/
def execLeftGroup (c : ChanNo) (g : GroupNo) (s : State) : Result := .next (remute c true (s.take (.leftGroup c g)))

/-- STRIP_ASSIGNED (R44). -/
def execStripAssigned (c : ChanNo) (strip : StripNo) (s : State) : Result :=
  .next (assignStrip c strip (s.take (.stripAssigned c strip)))

/-- STRIP_RELEASED (R44). -/
def execStripReleased (c : ChanNo) (strip : StripNo) (s : State) : Result :=
  .next (releaseStrip c strip (s.take (.stripReleased c strip)))

end Sys2Proof.Machine
end

