-- ==== Sys2Proof/Machine/CueList.lean ====
section
/-! DEFINITION. The requests of the Cue Store (spec/06_the_cue_list.md). -/

namespace Sys2Proof.Machine

/-! ## CUE_LOAD (R97 to R99) -/

/-- The first check of R97: part 0, or the part the buffer expects. -/
def inSequence (b : Option LoadBuffer) (f : CueLoadFields) : Bool :=
  f.part = 0 || match b with
    | some b => b.number = f.cue && b.nextPart = f.part
    | none => false

/-- The header is carried by part 0 and by no other. -/
def headerFits (f : CueLoadFields) : Bool := (f.part = 0) = f.header.isSome

/-- The buffer's cue with the part's records, and whether the part commits it (R97, step 2). -/
def loadPart? (b : Option LoadBuffer) (f : CueLoadFields) : Option (Bool × LoadBuffer) := do
  let number ← cueOf? f.cue
  let last ← markOf? f.last
  let _ ← within? (if f.part = 0 then 0 else 1) Config.maxPartRecords f.records.length
  let records ← f.records.mapM recordOf?
  let header ← match f.header with
    | some h => headerOf? h
    | none => b.map LoadBuffer.header
  let staged := (if f.part = 0 then [] else (b.map LoadBuffer.staged).getD []) ++ records
  let _ ← within? 0 Config.maxCueRecords staged.length
  some (last, { number, header, staged, nextPart := f.part + 1 })

/-- The cue a buffer holds. -/
def LoadBuffer.cue (b : LoadBuffer) : Cue := { number := b.number, header := b.header, records := b.staged }

/-- Payload of the reply to a part that does not commit (R97, R98). -/
def partBytes (b : LoadBuffer) : List Byte := bytesOf 3 b.number ++ byte b.staged.length ++ byte b.nextPart

/-- The generation and the two counts (R99, R101). -/
def countBytes (st : CueStore) : List Byte :=
  bytesOf 2 st.generation ++ bytesOf 2 st.cues.length ++ bytesOf 2 (recordCount st.cues)

/-- The rule of CUE_LOAD (R97 to R99). -/
def ruleCueLoad (f : CueLoadFields) (s : State) : Ruling := do
  refuseIf (!headerFits f) .badLength
  refuseIf (!inSequence s.store.buffer f) .state
  let part ← orRange (loadPart? s.store.buffer f)
  if part.1 then
    refuseIf (!commitFits part.2.cue s.store.cues) .full
    let replaced := (lookupExact s.store.cues part.2.number).isSome
    let s := commitCue part.2.cue s
    .ok (mark replaced ++ countBytes s.store, s)
  else .ok (partBytes part.2, { s with store := { s.store with buffer := some part.2 } })

/-- CUE_LOAD (R97). -/
def execCueLoad (tag : Byte) (form : Form CueLoadFields) (s : State) : Result :=
  .next (judge tag 0x10 form ruleCueLoad (taken (.cueLoad tag form) s))

/-! ## CUE_DELETE and LIST_CLEAR (R101, R102) -/

/-- The rule of CUE_DELETE (R101). -/
def ruleCueDelete (n : Nat) (s : State) : Ruling := do
  let n ← orRange (cueOf? n)
  refuseIf (lookupExact s.store.cues n).isNone .absent
  let s := editList (removeCue n s.store.cues) (.deleted n) s
  .ok (countBytes s.store, s)

/-- CUE_DELETE (R101). -/
def execCueDelete (tag : Byte) (form : Form Nat) (s : State) : Result :=
  .next (judge tag 0x11 form ruleCueDelete (taken (.cueDelete tag form) s))

/-- The rule of LIST_CLEAR (R102). -/
def ruleListClear (s : State) : Ruling :=
  let s := editList [] .cleared s
  .ok (bytesOf 2 s.store.generation, s)

/-- LIST_CLEAR (R102). -/
def execListClear (tag : Byte) (form : Form Unit) (s : State) : Result :=
  .next (judge tag 0x13 form (fun _ s => ruleListClear s) (taken (.listClear tag form) s))

/-! ## CUE_READ and LIST_INFO (R105, R106) -/

/-- The lookup of a match mode, EXACT 0 or AT_OR_ABOVE 1 (R105). -/
def lookupMode? (mode : Nat) : Option (List Cue → Nat → Option Cue) :=
  match mode with
  | 0 => some lookupExact
  | 1 => some lookupAtOrAbove
  | _ => none

/-- Payload of the CUE_READ reply from a record index upward (R105, R196). -/
def cueReadBytes (generation : Nat) (c : Cue) (index : Nat) : List Byte :=
  let rs := (c.records.drop index).take Config.maxPartRecords
  bytesOf 2 generation ++ bytesOf 3 c.number ++ byte c.header.label.length ++ c.header.label ++
    followBytes c.header.follow ++ cueBytes c.header.link ++ mark c.header.age ++ byte c.records.length ++
    byte rs.length ++ rs.flatMap recordBytes

/-- The rule of CUE_READ (R105). -/
def ruleCueRead (f : CueReadFields) (s : State) : Ruling := do
  let n ← orRange (cueOf? f.cue)
  let look ← orRange (lookupMode? f.mode)
  let index ← orRange (within? 0 Config.maxCueRecords f.index)
  match look s.store.cues n with
  | none => .error .absent
  | some c =>
    refuseIf (c.records.length < index) .range
    .ok (cueReadBytes s.store.generation c index, s)

/-- CUE_READ (R105). -/
def execCueRead (tag : Byte) (form : Form CueReadFields) (s : State) : Result :=
  .next (judge tag 0x12 form ruleCueRead (taken (.cueRead tag form) s))

/-- The load buffer in LIST_INFO, behind a presence byte (R106, R196). -/
def bufferBytes : Option LoadBuffer → List Byte
  | none => mark false
  | some b => mark true ++ partBytes b

/-- Payload of the LIST_INFO reply (R106). -/
def listInfoBytes (st : CueStore) : List Byte :=
  bytesOf 2 st.cues.length ++ bytesOf 2 (recordCount st.cues) ++ cueBytes (numberOf st.cues.head?) ++
    cueBytes (numberOf st.cues.getLast?) ++ bytesOf 2 st.generation ++ bufferBytes st.buffer

/-- LIST_INFO (R106). -/
def execListInfo (tag : Byte) (form : Form Unit) (s : State) : Result :=
  .next (judge tag 0x14 form (fun _ s => .ok (listInfoBytes s.store, s)) (taken (.listInfo tag form) s))

end Sys2Proof.Machine
end

