-- ==== Sys2Proof/Machine/FaultOps.lean ====
section
/-! DEFINITION. The Fault Monitor (spec/11_faults_and_safe_states.md): counting, tripping and clearing of sources, and the
effective action. -/

namespace Sys2Proof.Machine

/-- The names of the source states, in the order of R175. -/
def SourceState.code : SourceState → Nat
  | .clear => 0
  | .counting => 1
  | .tripped => 2

/-- The source tripped or source cleared event of a LINK source (R162, R176, R179). -/
def linkEvent (src : Source) (tripped : Bool) : List Instr :=
  match src with
  | .link l => [if tripped then .sourceTripped l else .sourceCleared l]
  | _ => []

/-- The events of a changed effective action: the Cue Sequencer's, then each channel's (R178; log 5). -/
def actionEvents (a : Action) : List Instr :=
  .effectiveActionAtSequencer a :: allChannels.map fun c => .effectiveActionChanged c a

/-- The effective action is worked out again, and a change of it handed (R178). -/
def workOutAction (s : State) : State :=
  let a := s.faults.workedOut
  if a = s.faults.effective then s
  else { s with faults := { s.faults with effective := a } }.hand (actionEvents a)

/-- The FAULT report of a trip or a clearing, unless masked; it carries the effective action after it (R182). -/
def reportFault (src : Source) (cleared : Bool) (count : Nat) (s : State) : State :=
  let r := s.source src
  if r.masked then s else s.offer (.fault src cleared count r.action s.faults.workedOut)

/-- A source trips (R176). -/
def trip (src : Source) (s : State) : State :=
  let r := s.source src
  let s := (s.setSource src { r with state := .tripped }).hand (linkEvent src true)
  workOutAction (reportFault src false r.count s)

/-- The count of a source after an occurrence: 1 in CLEAR, else one higher, 255 being the highest (R176). -/
def SourceRecord.nextCount (r : SourceRecord) : Nat := if r.state = .clear then 1 else min (r.count + 1) 255

/-- An occurrence at a source (R176). -/
def occurrenceAt (src : Source) (s : State) : State :=
  let r := s.source src
  let n := r.nextCount
  if r.state = .tripped then s.setSource src { r with sticky := true, count := n }
  else
    let s := s.setSource src { r with sticky := true, count := n, state := .counting }
    if r.trip ≤ n then trip src s else s

/-- A good event at a source (R177). -/
def goodAt (src : Source) (s : State) : State :=
  let r := s.source src
  if r.state = .counting then s.setSource src { r with state := .clear, count := 0 } else s

/-- A tripped source is cleared (R179). -/
def clearTripped (src : Source) (s : State) : State :=
  let r := s.source src
  let s := (s.setSource src { r with state := .clear, count := 0 }).hand (linkEvent src false)
  workOutAction (reportFault src true r.count s)

/-- FAULT_CLEAR, `none` where it is refused with STILL_PRESENT (R179). -/
def clearSource (src : Source) (s : State) : Option State :=
  let r := s.source src
  match r.state with
  | .clear => some s
  | .counting => some (s.setSource src { r with state := .clear, count := 0 })
  | .tripped => if conditionPresent s src then none else some (clearTripped src s)

/-- FAULT_CONFIG's three fields written and acted on (R180). -/
def configureSource (src : Source) (a : Action) (count : Nat) (masked : Bool) (s : State) : State :=
  let r := s.source src
  let s := s.setSource src { r with action := a, trip := count, masked := masked }
  match r.state with
  | .clear => s
  | .counting => if count ≤ r.count then trip src s else s
  | .tripped => workOutAction s

end Sys2Proof.Machine
end

