-- ==== Sys2Proof/Machine/Faults.lean ====
section
/-! DEFINITION. The commands of the Fault Monitor (spec/11_faults_and_safe_states.md). -/

namespace Sys2Proof.Machine

/-- OCCURRENCE (R176). -/
def execOccurrence (src : Source) (s : State) : Result := .next (occurrenceAt src (s.take (.occurrence src)))

/-- GOOD_EVENT (R177). -/
def execGoodEvent (src : Source) (s : State) : Result := .next (goodAt src (s.take (.goodEvent src)))

/-- Action, trip count, report mask, state and count of a source (R180). -/
def sourceBytes (r : SourceRecord) : List Byte :=
  byte (actionCode r.action) ++ byte r.trip ++ mark r.masked ++ byte r.state.code ++ byte r.count

/-- The rule of FAULT_CONFIG (R180). -/
def ruleFaultConfig (f : FaultConfigFields) (s : State) : Ruling := do
  let src ← orRange (sourceOf? f.source)
  match f.settings with
  | none => .ok (sourceBytes (s.source src), s)
  | some x => do
    let a ← orRange (actionOf? x.action)
    let n ← orRange (within? 1 8 x.trip)
    let masked ← orRange (markOf? x.mask)
    let s := configureSource src a n masked s
    .ok (sourceBytes (s.source src), s)

/-- FAULT_CONFIG (R180). -/
def execFaultConfig (tag : Byte) (form : Form FaultConfigFields) (s : State) : Result :=
  .next (judge tag 0x78 form ruleFaultConfig (taken (.faultConfig tag form) s))

/-- The rule of FAULT_CLEAR (R179). -/
def ruleFaultClear (n : Nat) (s : State) : Ruling := do
  let src ← orRange (sourceOf? n)
  match clearSource src s with
  | none => .error .stillPresent
  | some s => .ok (byte (s.source src).state.code ++ byte (actionCode s.faults.effective), s)

/-- FAULT_CLEAR (R179). -/
def execFaultClear (tag : Byte) (form : Form Nat) (s : State) : Result :=
  .next (judge tag 0x79 form ruleFaultClear (taken (.faultClear tag form) s))

/-- The rule of FAULT_TEST (R181). -/
def ruleFaultTest (n : Nat) (s : State) : Ruling := do
  let src ← orRange (sourceOf? n)
  let s := occurrenceAt src s
  .ok (byte (s.source src).state.code ++ byte (s.source src).count ++ byte (actionCode s.faults.effective), s)

/-- FAULT_TEST (R181). -/
def execFaultTest (tag : Byte) (form : Form Nat) (s : State) : Result :=
  .next (judge tag 0x7A form ruleFaultTest (taken (.faultTest tag form) s))

/-- Payload of the FAULT_READ reply (R181). -/
def faultBytes (s : State) : List Byte :=
  byte (actionCode s.faults.effective) ++ allSources.flatMap fun src =>
    sourceBytes (s.source src) ++ mark (s.source src).sticky ++ mark (conditionPresent s src)

/-- FAULT_READ (R181). -/
def execFaultRead (tag : Byte) (form : Form Unit) (s : State) : Result :=
  .next (judge tag 0x7B form (fun _ s => .ok (faultBytes s, s)) (taken (.faultRead tag form) s))

end Sys2Proof.Machine
end

