-- ==== Sys2Proof/Machine/Groups.lean ====
section
/-! DEFINITION. The commands of the Group Table (spec/04_groups.md). -/

namespace Sys2Proof.Machine

/-- MASTER_POSITION_CHANGED (R63). -/
def execMasterPositionChanged (g : GroupNo) (p : Position) (s : State) : Result :=
  .next (writeMaster g p (s.take (.masterPositionChanged g p)))

/-- MASTER_MUTE_ACTION (R64, R66). -/
def execMasterMuteAction (g : GroupNo) (on : Bool) (s : State) : Result :=
  .next (writeMasterMute g on (s.take (.masterMuteAction g on)))

/-- The rule of GROUP_MEMBERS (R61). -/
def ruleGroupMembers (f : MembersFields) (s : State) : Ruling := do
  let g ← orRange (finOf? 16 f.group)
  let cs ← orRange (distinctOf? 96 f.channels)
  refuseIf (membersConflict s g cs) .conflict
  let old := (s.group g).members
  let new := channelSet cs
  .ok (byte (joining old new).length ++ byte (joining new old).length, writeMembers g new s)

/-- GROUP_MEMBERS (R61). -/
def execGroupMembers (tag : Byte) (form : Form MembersFields) (s : State) : Result :=
  .next (judge tag 0x40 form ruleGroupMembers (taken (.groupMembers tag form) s))

/-- The rule of GROUP_SET (R65). -/
def ruleGroupSet (f : GroupSetFields) (s : State) : Ruling := do
  let g ← orRange (finOf? 16 f.group)
  let position ← orRange (positionOf? f.position)
  let time ← orRange (timeOf? f.time)
  let curve ← orRange (curveOf? f.curve)
  let done := requestMoves [.master g] time position curve s
  .ok (byte done.1, done.2)

/-- GROUP_SET (R65). -/
def execGroupSet (tag : Byte) (form : Form GroupSetFields) (s : State) : Result :=
  .next (judge tag 0x41 form ruleGroupSet (taken (.groupSet tag form) s))

/-- The rule of GROUP_MUTE (R66). -/
def ruleGroupMute (f : MuteFields) (s : State) : Ruling := do
  let gs ← orRange (listOf? 16 16 f.list)
  let on ← orRange (markOf? f.value)
  let changed := gs.countP fun g => (s.group g).muted ≠ on
  .ok (byte changed, gs.foldl (fun s g => writeMasterMute g on s) s)

/-- GROUP_MUTE (R66). -/
def execGroupMute (tag : Byte) (form : Form MuteFields) (s : State) : Result :=
  .next (judge tag 0x42 form ruleGroupMute (taken (.groupMute tag form) s))

/-- The active moves on a master (R68). -/
def movesOnMaster (s : State) (g : GroupNo) : Nat := s.engine.moves.countP fun m => m.target = .master g

/-- Master position, master mute and number of members (R68). -/
def groupHeadBytes (r : Group) : List Byte := bytesOf 2 r.master.val ++ mark r.muted ++ byte r.members.length

/-- A group's full record (R68). -/
def groupRecordBytes (s : State) (g : GroupNo) : List Byte :=
  groupHeadBytes (s.group g) ++ ((s.group g).members.flatMap fun c => byte c.val) ++ byte (movesOnMaster s g)

/-- A group's summary record (R68). -/
def groupSummaryBytes (s : State) (g : GroupNo) : List Byte := groupHeadBytes (s.group g) ++ byte (movesOnMaster s g)

/-- The rule of GROUP_READ (R68). -/
def ruleGroupRead (f : GroupReadFields) (s : State) : Ruling :=
  match f with
  | .one g => do
    let g ← orRange (finOf? 16 g)
    .ok (groupRecordBytes s g, s)
  | .range first count => do
    let gs ← orRange (rangeOf? 16 16 first count)
    .ok (gs.flatMap (groupSummaryBytes s), s)

/-- GROUP_READ (R68). -/
def execGroupRead (tag : Byte) (form : Form GroupReadFields) (s : State) : Result :=
  .next (judge tag 0x43 form ruleGroupRead (taken (.groupRead tag form) s))

end Sys2Proof.Machine
end

