-- ==== Sys2Proof/Machine/Links.lean ====
section
/-! DEFINITION. The commands of the Gain Link Controller (spec/10_output_links.md). -/

namespace Sys2Proof.Machine

/-! ## Clock steps -/

/-- The next clock step handed to a link, taken there (R161, R163). -/
def takeLinkStep (l : LinkNo) (s : State) : State := linkStep l (s.take (s.nextStep (.linkClockStep l ·)))

/-- LINK_CLOCK_STEP (R161, R163). -/
def execLinkClockStep (l : LinkNo) (s : State) (showTime : Nat := 0) : Result :=
  .next (linkStep l (s.take (.linkClockStep l showTime)))

/-- The hello window runs out at the next step (R161). -/
def windowEnds : LinkState → Bool
  | .training w => w ≤ 1
  | .fault w => w ≤ 1
  | _ => false

/-- HELLO_UNANSWERED: the clock step at which the window reaches 0; nothing where it does not (R161; log 4). -/
def execHelloUnanswered (l : LinkNo) (s : State) : Result :=
  .next (if windowEnds (s.link l).state then takeLinkStep l s else s)

/-- The keepalive timer reaches 0 at the next step (R163). -/
def keepaliveDue : LinkState → Bool
  | .up k _ => k ≤ 1
  | _ => false

/-- KEEPALIVE: the clock step at which the keepalive timer reaches 0; nothing where it does not (R163; log 4). -/
def execKeepalive (l : LinkNo) (s : State) : Result :=
  .next (if keepaliveDue (s.link l).state then takeLinkStep l s else s)

/-- The silence reaches 30 at the next step (R163). -/
def silenceEnds : LinkState → Bool
  | .up _ silence => Config.silenceSteps ≤ silence + 1
  | _ => false

/-- KEEPALIVE_LOST: the clock step at which the silence reaches 30; nothing where it does not (R163; log 4). -/
def execKeepaliveLost (l : LinkNo) (s : State) : Result :=
  .next (if silenceEnds (s.link l).state then takeLinkStep l s else s)

/-! ## Messages from the engine -/

/-- READY (R161, R163). -/
def execReady (l : LinkNo) (s : State) : Result := .next (readyAt l s)

/-- KEEPALIVE_ACKNOWLEDGEMENT (R163). -/
def execKeepaliveAcknowledgement (l : LinkNo) (s : State) : Result := .next (acknowledgementAt l s)

/-- LINK_MESSAGE_DISCARD: a received message, checked; a good one is taken for what it is (R197). -/
def execLinkMessageDiscard (l : LinkNo) (message : List Byte) (s : State) : Result := .next (engineMessage l message s)

/-- LINK_MESSAGE_GAP: a message that stops for 5 ms is dropped. No part of one is held (R197; log 24). -/
def execLinkMessageGap (_l : LinkNo) (s : State) : Result := .next s

/-! ## Events -/

/-- OUTPUT_GAIN_CHANGED (R166). -/
def execOutputGainChanged (l : LinkNo) (c : ChanNo) (o : Gain) (settled : Bool) (s : State) : Result :=
  .next (gainChangedAt l c o settled (s.take (.outputGainChanged l c o settled)))

/-- CHANNEL_SETTLED (R167). -/
def execChannelSettled (l : LinkNo) (c : ChanNo) (o : Gain) (s : State) : Result :=
  .next (channelSettledAt l c o (s.take (.channelSettled l c o)))

/-- UPDATE_FRAME at an internal time (R168). -/
def execUpdateFrame (l : LinkNo) (time : Nat) (s : State) : Result := .next (sendFrame l time s)

/-- SOURCE_TRIPPED (R162). -/
def execSourceTripped (l : LinkNo) (s : State) : Result := .next (sourceTrippedAt l (s.take (.sourceTripped l)))

/-- SOURCE_CLEARED (R162). -/
def execSourceCleared (l : LinkNo) (s : State) : Result := .next (sourceClearedAt l (s.take (.sourceCleared l)))

/-! ## Requests -/

/-- The queued gain of a slot. -/
def Link.queuedGain (r : Link) (slot : Slot) : Option Gain := (r.queue.find? fun e => e.1 = slot).map Prod.snd

/-- One slot of the SLOT_MAP readout (R170; log 19). -/
def slotBytes (s : State) (l : LinkNo) (slot : Slot) : List Byte :=
  let r := s.link l
  numberByte r.ownMap[slot] ++ numberByte (effectiveMap s l)[slot] ++ gainOptBytes r.lastSent[slot] ++
    mark (r.isQueued slot) ++ gainOptBytes (r.queuedGain slot) ++ mark (r.stale.contains slot)

/-- The rule of SLOT_MAP (R170). -/
def ruleSlotMap (f : SlotMapFields) (s : State) : Ruling := do
  let l ← orRange (finOf? 4 f.link)
  let slots ← orRange (rangeOf? 64 64 f.first f.count)
  match f.entries with
  | none => .ok (slots.flatMap (slotBytes s l), s)
  | some es => do
    refuseIf (es.length ≠ f.count) .badLength
    let entries ← orRange (es.mapM (present? (finOf? 96)))
    let pairs := slots.zip entries
    .ok (byte (changedSlots (s.link l).ownMap pairs).length, writeMap l pairs s)

/-- SLOT_MAP (R170). -/
def execSlotMap (tag : Byte) (form : Form SlotMapFields) (s : State) : Result :=
  .next (judge tag 0x60 form ruleSlotMap (taken (.slotMap tag form) s))

/-- Payload of the LINK_CONFIG reply (R172). -/
def linkConfigBytes (r : Link) : List Byte :=
  mark r.enable ++ byte r.high ++ byte r.low ++ byte r.step ++ numberByte r.mirror

/-- The rule of LINK_CONFIG (R172). -/
def ruleLinkConfig (f : LinkConfigFields) (s : State) : Ruling := do
  let l ← orRange (finOf? 4 f.link)
  match f.settings with
  | none => .ok (linkConfigBytes (s.link l), s)
  | some x => do
    let on ← orRange (markOf? x.enable)
    let high ← orRange (within? 2 64 x.high)
    let low ← orRange (within? 0 63 x.low)
    let step ← orRange (within? 1 100 x.step)
    let mirror ← orRange (present? (finOf? 4) x.mirror)
    refuseIf (high ≤ low) .range
    refuseIf (mirrorConflict s l mirror) .conflict
    let s := writeLink l on high low step mirror s
    .ok (linkConfigBytes (s.link l), s)

/-- LINK_CONFIG (R172). -/
def execLinkConfig (tag : Byte) (form : Form LinkConfigFields) (s : State) : Result :=
  .next (judge tag 0x61 form ruleLinkConfig (taken (.linkConfig tag form) s))

/-- Payload of the LINK_READ reply (R173). -/
def linkBytes (r : Link) : List Byte :=
  byte r.state.code ++ mark r.enable ++ numberByte r.mirror ++ byte r.queue.length ++ mark r.congested ++
    byte r.stale.length ++ byte r.high ++ byte r.low ++ byte r.step ++ bytesOf 4 r.framesSent ++
    bytesOf 4 r.entriesSent ++ bytesOf 4 r.hellosUnanswered ++ bytesOf 4 r.keepaliveLosses

/-- The rule of LINK_READ (R173). -/
def ruleLinkRead (n : Nat) (s : State) : Ruling := do
  let l ← orRange (finOf? 4 n)
  .ok (linkBytes (s.link l), s)

/-- LINK_READ (R173). -/
def execLinkRead (tag : Byte) (form : Form Nat) (s : State) : Result :=
  .next (judge tag 0x62 form ruleLinkRead (taken (.linkRead tag form) s))

end Sys2Proof.Machine
end

