-- ==== Sys2Proof/Machine/Moves.lean ====
section
/-! DEFINITION. The commands of the Move Engine (spec/05_moves.md). -/

namespace Sys2Proof.Machine

/-- CUE_FIRE (R72 to R74). -/
def execCueFire (cue : Nat) (records : List MoveRecord) (back : Option Nat) (s : State) : Result :=
  .next (fireCue cue records back (s.take (.cueFire cue records back)))

/-- MOVE_ENGINE_CLOCK_STEP (R76, R79). -/
def execMoveEngineClockStep (s : State) (showTime : Nat := 0) : Result :=
  .next (engineStep (s.take (.moveEngineClockStep showTime)))

/-- The next clock step handed to the Move Engine, taken there (R79). -/
def takeEngineStep (s : State) : State := engineStep (s.take (s.nextStep (.moveEngineClockStep ·)))

/-- A WAITING move with this id has its delay run out at the next step (R76). -/
def startsNext (id : Nat) (m : Move) : Bool := m.id = id && (m.phase = .waiting 1 || m.phase = .waiting 0)

/-- A RUNNING move with this id reaches its duration at the next step (R82). -/
def completesNext (id : Nat) (m : Move) : Bool :=
  m.id = id && match m.phase with
    | .running e _ => m.duration ≤ e + 1
    | .waiting _ => false

/-- MOVE_START: the clock step at which the delay of the move named runs out; nothing where it does not (R76, R77; log 4). -/
def execMoveStart (id : Nat) (s : State) : Result :=
  .next (if !s.engine.held && s.engine.moves.any (startsNext id) then takeEngineStep s else s)

/-- MOVE_COMPLETED: the clock step at which the move named would reach its duration; nothing where it would not (R82; log 4).
Where a start of that step takes the move over (R78), the whole step is performed too, and the move ends TAKEN_OVER
(DESIGN CHOICE, log 4). -/
def execMoveCompleted (id : Nat) (s : State) : Result :=
  .next (if !s.engine.held && s.engine.moves.any (completesNext id) then takeEngineStep s else s)

/-- CHANNEL_YIELDED (R83). -/
def execChannelYielded (c : ChanNo) (s : State) : Result := .next (yieldChannel c (s.take (.channelYielded c)))

/-- CHANNEL_MADE_SAFE (R84). -/
def execChannelMadeSafe (c : ChanNo) (s : State) : Result := .next (makeChannelSafe c (s.take (.channelMadeSafe c)))

/-- CANCELLATION (R85). -/
def execCancellation (s : State) : Result := .next (cancelMoves (s.take .cancellation))

/-- PLAYBACK_HELD (R87). -/
def execPlaybackHeld (s : State) : Result := .next (setHeldMark true (s.take .playbackHeld))

/-- PLAYBACK_RESUMED (R87). -/
def execPlaybackResumed (s : State) : Result := .next (setHeldMark false (s.take .playbackResumed))

end Sys2Proof.Machine
end

