-- ==== Sys2Proof/Machine/Playback.lean ====
section
/-! DEFINITION. The commands of the Cue Sequencer (spec/07_playback.md). -/

namespace Sys2Proof.Machine

/-! ## Events at the sequencer -/

/-- LIST_EDITED (R110, R100). -/
def execListEdited (edit : Edit) (count : Nat) (s : State) : Result :=
  let s := s.take (.listEdited edit count)
  .next (s.setSeq (s.seq.edited (fun n => numberOf (lookupAbove s.store.cues n)) edit count).settle)

/-- SEQUENCER_CLOCK_STEP (R113, R123). -/
def execSequencerClockStep (showTime : Nat) (s : State) : Result :=
  .next (sequencerStep showTime (s.take (.sequencerClockStep showTime)))

/-- The countdown runs out at the next clock step outside a hold (R113). -/
def followDue (q : Sequencer) : Bool :=
  match q.follow with
  | some f => q.state ≠ .held && f.countdown ≤ 1
  | none => false

/-- FOLLOW_EXPIRY: the clock step at which the countdown reaches 0; nothing where it does not (R113; log 4). -/
def execFollowExpiry (showTime : Nat) (s : State) : Result :=
  .next (if followDue s.seq then sequencerStep showTime (s.take (.sequencerClockStep showTime)) else s)

/-- SCHEDULE_TRIGGER_DUE: the clock step at which a trigger comes due; nothing where none does (R123; log 4). -/
def execScheduleTriggerDue (showTime : Nat) (s : State) : Result :=
  .next (if s.seq.schedule.any (Trigger.comesDue showTime)
    then sequencerStep showTime (s.take (.sequencerClockStep showTime)) else s)

/-- SHOW_TIME_SET (R124). -/
def execShowTimeSet (old new : Nat) (s : State) : Result := .next (jumpShowTime old new (s.take (.showTimeSet old new)))

/-- EFFECTIVE_ACTION_AT_SEQUENCER (R119). -/
def execEffectiveActionAtSequencer (a : Action) (s : State) : Result :=
  let s := s.take (.effectiveActionAtSequencer a)
  let rises := !holds s.seq.action && holds a
  let s := s.setSeq { s.seq with action := a }
  .next (if rises then enterHeld s else s)

/-! ## Firing requests (R114 to R116) -/

/-- The state lets a GO fire (R114, check 1). -/
def goAllowed (q : Sequencer) : Bool :=
  match q.state with
  | .ready => true
  | .following => q.standby.isSome
  | _ => false

/-- Payload of the reply to a fire by GO or GOTO: the cue fired, the new standby, the generation (R114, R115). -/
def firedBytes (c : Cue) (s : State) : List Byte :=
  bytesOf 3 c.number ++ cueBytes s.seq.standby ++ bytesOf 2 s.store.generation

/-- The rule of GO (R114). -/
def ruleGo (f : GoFields) (s : State) : Ruling := do
  let cue ← orRange (present? cueOf? f.cue)
  let generation ← orRange (present? (within? 0 65535) f.generation)
  refuseIf (!goAllowed s.seq) .state
  refuseIf (cue.isSome && cue ≠ s.seq.standby) .stale
  refuseIf (generation.isSome && generation ≠ some s.store.generation) .stale
  match s.seq.standby.bind (lookupAtOrAbove s.store.cues) with
  | none => .error .absent
  | some c =>
    let s := fire c .go s.clock.showTime s
    .ok (firedBytes c s, s)

/-- GO (R114). -/
def execGo (tag : Byte) (form : Form GoFields) (s : State) : Result :=
  .next (judge tag 0x20 form ruleGo (taken (.go tag form) s))

/-- The rule of BACK (R116). -/
def ruleBack (s : State) : Ruling :=
  match s.seq.lastFired.bind (lookupBelow s.store.cues) with
  | none => .error .absent
  | some b =>
    let s := fireBack b s.clock.showTime s
    .ok (bytesOf 3 b.number ++ cueBytes s.seq.standby, s)

/-- BACK (R116). -/
def execBack (tag : Byte) (form : Form Unit) (s : State) : Result :=
  .next (judge tag 0x21 form (fun _ s => ruleBack s) (taken (.back tag form) s))

/-- The rule of GOTO with the fire option set (R115). -/
def ruleGotoFire (n : Nat) (s : State) : Ruling := do
  let n ← orRange (cueOf? n)
  refuseIf (s.seq.state = .held) .state
  match lookupExact s.store.cues n with
  | none => .error .absent
  | some c =>
    let s := fire c .goto s.clock.showTime s
    .ok (firedBytes c s, s)

/-- The rule of GOTO with the fire option clear (R115). -/
def ruleGotoClear (n : Nat) (s : State) : Ruling := do
  let n ← orRange (cueOf? n)
  refuseIf (lookupExact s.store.cues n).isNone .absent
  let q : Sequencer := { s.seq with standby := some n }
  .ok (bytesOf 3 n, s.setSeq q.settle)

/-- The rule of GOTO by its fire option; one that is neither clear nor set is refused (R115). -/
def ruleGoto (f : GotoFields) (s : State) : Ruling :=
  if f.fire = 0 then ruleGotoClear f.cue s else if f.fire = 1 then ruleGotoFire f.cue s else .error .range

/-- GOTO (R115). -/
def execGoto (tag : Byte) (form : Form GotoFields) (s : State) : Result :=
  .next (judge tag 0x22 form ruleGoto (taken (.goto tag form) s))

/-- GOTO_FIRE (R115). -/
def execGotoFire (tag : Byte) (form : Form Nat) (s : State) : Result :=
  .next (judge tag 0x22 form ruleGotoFire (taken (.gotoFire tag form) s))

/-! ## HOLD, RESUME, STOP (R117, R118, R120) -/

/-- HOLD (R117). -/
def execHold (tag : Byte) (form : Form Unit) (s : State) : Result :=
  .next (judge tag 0x23 form (fun _ s => .ok ([], enterHeld s)) (taken (.hold tag form) s))

/-- The rule of RESUME (R118). -/
def ruleResume (s : State) : Ruling := do
  refuseIf (s.seq.state ≠ .held) .state
  refuseIf (holds s.seq.action) .state
  let ended := endHold s
  .ok (byte ended.1.1 ++ byte ended.1.2, ended.2)

/-- RESUME (R118). -/
def execResume (tag : Byte) (form : Form Unit) (s : State) : Result :=
  .next (judge tag 0x24 form (fun _ s => ruleResume s) (taken (.resume tag form) s))

/-- STOP (R120). -/
def execStop (tag : Byte) (form : Form Unit) (s : State) : Result :=
  .next (judge tag 0x25 form (fun _ s => .ok (byte s.engine.moves.length, s.hand [.cancellation])) (taken (.stop tag form) s))

/-! ## The schedule list (R121, R122) -/

/-- The rule of SCHEDULE_ADD (R121). -/
def ruleScheduleAdd (f : TriggerFields) (s : State) : Ruling := do
  let time ← orRange (within? 0 Config.maxShowTime f.time)
  let cue ← orRange (cueOf? f.cue)
  refuseIf (Config.maxTriggers ≤ s.seq.schedule.length) .full
  let s := s.setSchedule (insertTrigger { time, cue, due := false } s.seq.schedule)
  .ok (byte s.seq.schedule.length, s)

/-- SCHEDULE_ADD (R121). -/
def execScheduleAdd (tag : Byte) (form : Form TriggerFields) (s : State) : Result :=
  .next (judge tag 0x26 form ruleScheduleAdd (taken (.scheduleAdd tag form) s))

/-- The rule of SCHEDULE_CANCEL; `none` is ALL (R122). -/
def ruleScheduleCancel (n : Option Nat) (s : State) : Ruling := do
  let n ← orRange (present? cueOf? n)
  let goes : Trigger → Bool := fun t => n.isNone || n = some t.cue
  refuseIf (n.isSome && !s.seq.schedule.any goes) .absent
  .ok (byte (s.seq.schedule.countP goes), s.setSchedule (s.seq.schedule.filter fun t => !goes t))

/-- SCHEDULE_CANCEL (R122). -/
def execScheduleCancel (tag : Byte) (form : Form (Option Nat)) (s : State) : Result :=
  .next (judge tag 0x27 form ruleScheduleCancel (taken (.scheduleCancel tag form) s))

/-! ## Readout and settings (R126, R127) -/

/-- Code of a playback state (R108). -/
def playStateCode : PlayState → Nat
  | .empty => 0
  | .ready => 1
  | .following => 2
  | .held => 3
  | .ended => 4

/-- A trigger in PLAYBACK_READ: time, cue number, PENDING 0 or DUE 1 (R127). -/
def triggerBytes (t : Trigger) : List Byte := bytesOf 4 t.time ++ bytesOf 3 t.cue ++ mark t.due

/-- Payload of the PLAYBACK_READ reply (R127). -/
def playbackBytes (s : State) : List Byte :=
  let q := s.seq
  byte (playStateCode q.state) ++ mark (holds q.action) ++ cueBytes q.standby ++ cueBytes q.lastFired ++
    followBytes (q.follow.map Follow.countdown) ++ cueBytes (q.follow.map Follow.source) ++ bytesOf 3 q.backTime ++
    byte s.engine.moves.length ++ byte (s.engine.moves.countP fun m => !m.isRunning) ++
    byte (s.engine.moves.countP Move.isRunning) ++ byte q.schedule.length ++ q.schedule.flatMap triggerBytes

/-- PLAYBACK_READ (R127). -/
def execPlaybackRead (tag : Byte) (form : Form Unit) (s : State) : Result :=
  .next (judge tag 0x28 form (fun _ s => .ok (playbackBytes s, s)) (taken (.playbackRead tag form) s))

/-- The rule of PLAYBACK_CONFIG (R126). -/
def rulePlaybackConfig (f : Option Nat) (s : State) : Ruling := do
  let time ← orRange (present? timeOf? f)
  let s := s.setSeq { s.seq with backTime := time.getD s.seq.backTime }
  .ok (bytesOf 3 s.seq.backTime, s)

/-- PLAYBACK_CONFIG (R126). -/
def execPlaybackConfig (tag : Byte) (form : Form (Option Nat)) (s : State) : Result :=
  .next (judge tag 0x29 form rulePlaybackConfig (taken (.playbackConfig tag form) s))

end Sys2Proof.Machine
end

