-- ==== Sys2Proof/Machine/Port.lean ====
section
/-! DEFINITION. The commands of the Control Port (spec/12_the_control_port.md). -/

namespace Sys2Proof.Machine

/-! ## Power and the line -/

/-- POWER_ON: every block takes its power-on values, and the straps are sampled (R195, R184). -/
def execPowerOn (rate1 rate0 : Bool) (s : State) : Result := .next (powered (strapRate rate1 rate0) 0 s)

/-- LINE_ERROR (R184, R185). -/
def execLineError (s : State) : Result := .next (breakFrame s)

/-- RECEIVE_GAP: 5 ms since the last byte in FRAME (R185). -/
def execReceiveGap (s : State) : Result := .next (breakFrame s)

/-- FRAME_LEN_INVALID: the byte named is the LEN byte above 250; any other byte is taken for what it is (R185). -/
def execFrameLenInvalid (b : Byte) (s : State) : Result := .next (receiveByte b s)

/-- FRAME_RECEIVED: the byte that completes the frame (R185, R186). -/
def execFrameReceived (b : Byte) (s : State) : Result := .next (receiveByte b s)

/-- BYTE_RECEIVED (R185). -/
def execByteReceived (b : Byte) (s : State) : Result := .next (receiveByte b s)

/-- REPLY_FRAME: the idle transmitter takes the reply buffer's next frame (R188). -/
def execReplyFrame (s : State) : Result :=
  .next (match s.port.sending, s.port.reply with
    | none, some r => beginReply r s
    | _, _ => s)

/-- REPORT_FRAME: the idle transmitter, with no reply to send, takes the oldest report (R188). -/
def execReportFrame (s : State) : Result :=
  .next (match s.port.sending, s.port.reply with
    | none, none => beginReport s
    | _, _ => s)

/-- FRAME_SENT: the frame on the line ends, and the transmitter is idle (R188). -/
def execFrameSent (s : State) : Result := .next (s.setPort { s.port with sending := none })

/-! ## Requests of the port -/

/-- UNKNOWN: a code that is no request code (R187). A request code is taken as the row of its own code, and makes this row no
event (DESIGN CHOICE, log 40). -/
def execUnknown (tag code : Byte) (s : State) : Result :=
  .next (if code ∈ Config.requestCodes then s else answer tag code .unknown [] (taken (.unknown tag code) s))

/-- Payload of the IDENT reply (R194). -/
def identBytes (p : Port) : List Byte :=
  bytesOf 2 Config.vendorCode ++ bytesOf 2 Config.partNumber ++ byte Config.revision ++ byte p.lineRate

/-- IDENT (R194). -/
def execIdent (tag : Byte) (form : Form Unit) (s : State) : Result :=
  .next (judge tag 0x01 form (fun _ s => .ok (identBytes s.port, s)) (taken (.ident tag form) s))

/-- Payload of the HEARTBEAT reply: the timer found, and DISABLED 0, EARLY 1 or GOOD 2 (R193). -/
def heartbeatBytes (timer : Option Nat) (verdict : Nat) : List Byte := optBytes 2 timer ++ byte verdict

/-- The rule of HEARTBEAT (R193). -/
def ruleHeartbeat (s : State) : Ruling :=
  let h := s.port.heartbeat
  match h.timer with
  | none => .ok (heartbeatBytes none 0, s)
  | some t =>
    let s := s.setPort { s.port with heartbeat := { h with timer := some 0 } }
    if h.lower ≠ 0 ∧ t < h.lower then .ok (heartbeatBytes (some t) 1, s.hand [.occurrence .watchdog])
    else .ok (heartbeatBytes (some t) 2, s.hand [.goodEvent .watchdog])

/-- HEARTBEAT (R193). -/
def execHeartbeat (tag : Byte) (form : Form Unit) (s : State) : Result :=
  .next (judge tag 0x02 form (fun _ s => ruleHeartbeat s) (taken (.heartbeat tag form) s))

/-- Payload of the STATUS reply: the four port flags, then the nine sources' sticky flags (R194). -/
def statusBytes (s : State) : List Byte :=
  let f := s.port.flags
  mark f.overrun ++ mark f.reportLost ++ mark f.frameError ++ mark f.resetSeen ++
    allSources.flatMap fun src => mark (s.source src).sticky

/-- The port flags after STATUS: each is cleared unless its condition is present (R194). -/
def Port.clearedFlags (p : Port) : PortFlags :=
  { overrun := p.flags.overrun && overrunPresent p
    reportLost := p.flags.reportLost && reportLostPresent p
    frameError := false
    resetSeen := false }

/-- A source's sticky flag after STATUS: cleared unless its condition is present (R194, R182). -/
def clearSticky (s : State) (src : Source) : State :=
  let r := s.source src
  s.setSource src { r with sticky := r.sticky && conditionPresent s src }

/-- STATUS (R194). -/
def execStatus (tag : Byte) (form : Form Unit) (s : State) : Result :=
  .next (judge tag 0x03 form
    (fun _ s => .ok (statusBytes s, allSources.foldl clearSticky (s.setPort { s.port with flags := s.port.clearedFlags })))
    (taken (.status tag form) s))

/-- The answer to a RESET, which waits for its reply to leave the line (R195). -/
def answerReset (tag : Byte) (scope : Scope) (form : ResetForm) (s : State) : State :=
  match form with
  | .wrongLength => answer tag 0x04 .badLength [] s
  | .badScope _ => answer tag 0x04 .range [] s
  | .own => answer tag 0x04 .ok [] (s.setPort { s.port with resetWaiting := some scope })

/-- RESET, scope PLAYBACK (R195). -/
def execResetPlayback (tag : Byte) (form : ResetForm) (s : State) : Result :=
  .next (answerReset tag .playback form (taken (.resetPlayback tag form) s))

/-- RESET, scope SURFACE (R195). -/
def execResetSurface (tag : Byte) (form : ResetForm) (s : State) : Result :=
  .next (answerReset tag .surface form (taken (.resetSurface tag form) s))

/-- RESET, scope LINKS (R195). -/
def execResetLinks (tag : Byte) (form : ResetForm) (s : State) : Result :=
  .next (answerReset tag .links form (taken (.resetLinks tag form) s))

/-- RESET, scope ALL, or a payload that names no scope (R195). -/
def execResetAll (tag : Byte) (form : ResetForm) (s : State) : Result :=
  .next (answerReset tag .all form (taken (.resetAll tag form) s))

/-- RESET_TAKES_EFFECT: the reply has left the line, and the reset acts (R195). -/
def execResetTakesEffect (s : State) : Result := .next (takeReset s)

/-- Code of a move report mode, its place in the list of names (R88, R189; DESIGN CHOICE for ALL and NONE, log 34). -/
def moveReportsCode : MoveReports → Nat
  | .all => 0
  | .exceptions => 1
  | .none => 2

/-- Payload of the REPORT_MODE reply (R189). -/
def reportModeBytes (s : State) : List Byte := s.port.enables.toList.flatMap mark ++ byte (moveReportsCode s.engine.reports)

/-- Nine enables from a list. -/
def enablesOf? (ns : List Nat) : Option (Vector Bool 9) := do
  let bs ← ns.mapM markOf?
  if h : bs.length = 9 then some ⟨bs.toArray, by simpa using h⟩ else none

/-- The rule of REPORT_MODE (R189). -/
def ruleReportMode (f : Option ReportModeFields) (s : State) : Ruling :=
  match f with
  | none => .ok (reportModeBytes s, s)
  | some f => do
    refuseIf (f.enables.length ≠ 9) .badLength
    let enables ← orRange (enablesOf? f.enables)
    let mode ← orRange (moveReportsOf? f.mode)
    let s := { s with port := { s.port with enables := enables }, engine := { s.engine with reports := mode } }
    .ok (reportModeBytes s, s)

/-- REPORT_MODE (R189). -/
def execReportMode (tag : Byte) (form : Form (Option ReportModeFields)) (s : State) : Result :=
  .next (judge tag 0x05 form ruleReportMode (taken (.reportMode tag form) s))

/-- Payload of the WATCH_SET reply (R190). -/
def watchBytes (p : Port) : List Byte := p.watches.toList.flatMap fun w => mark w.inUse ++ byte w.value ++ byte w.mask

/-- The rule of WATCH_SET (R190). -/
def ruleWatchSet (f : Option WatchFields) (s : State) : Ruling :=
  match f with
  | none => .ok (watchBytes s.port, s)
  | some f => do
    let entry ← orRange (finOf? 8 f.entry)
    let inUse ← orRange (markOf? f.inUse)
    let value ← orRange (within? 0 127 f.value)
    let mask ← orRange (within? 0 127 f.mask)
    let s := s.setPort { s.port with watches := s.port.watches.set entry { inUse, value, mask } }
    .ok (watchBytes s.port, s)

/-- WATCH_SET (R190). -/
def execWatchSet (tag : Byte) (form : Form (Option WatchFields)) (s : State) : Result :=
  .next (judge tag 0x06 form ruleWatchSet (taken (.watchSet tag form) s))

/-- Payload of the HEARTBEAT_CONFIG reply (R192). -/
def heartbeatConfigBytes (h : Heartbeat) : List Byte :=
  mark h.timer.isSome ++ bytesOf 2 h.upper ++ bytesOf 2 h.lower ++ optBytes 2 h.timer

/-- The rule of HEARTBEAT_CONFIG (R192). -/
def ruleHeartbeatConfig (f : Option HeartbeatFields) (s : State) : Ruling :=
  match f with
  | none => .ok (heartbeatConfigBytes s.port.heartbeat, s)
  | some f => do
    let on ← orRange (markOf? f.enable)
    let upper ← orRange (within? 250 10000 f.upper)
    refuseIf (f.lower ≠ 0 && f.upper ≤ f.lower) .range
    let h : Heartbeat := { upper := upper, lower := f.lower, timer := if on then some 0 else none }
    .ok (heartbeatConfigBytes h, s.setPort { s.port with heartbeat := h })

/-- HEARTBEAT_CONFIG (R192). -/
def execHeartbeatConfig (tag : Byte) (form : Form (Option HeartbeatFields)) (s : State) : Result :=
  .next (judge tag 0x07 form ruleHeartbeatConfig (taken (.heartbeatConfig tag form) s))

/-! ## The port's clock step -/

/-- A clock step at the Control Port (R192). -/
def execPortClockStep (s : State) (showTime : Nat := 0) : Result := .next (portStep (s.take (.portClockStep showTime)))

/-- The next clock step at the port is a late one (R192). -/
def heartbeatDue (h : Heartbeat) : Bool :=
  match h.timer with
  | some t => h.upper ≤ t + 1
  | none => false

/-- HEARTBEAT_LATE: the clock step that brings the timer to the upper limit; nothing where it does not (R192; log 4). -/
def execHeartbeatLate (s : State) : Result :=
  .next (if heartbeatDue s.port.heartbeat then portStep (s.take (s.nextStep (.portClockStep ·))) else s)

end Sys2Proof.Machine
end

