-- ==== Sys2Proof/Machine/ShowClock.lean ====
section
/-! DEFINITION. The commands of the Show Clock (spec/08_show_clock.md). -/

namespace Sys2Proof.Machine

/-- CLOCK_STEP (R130, R131). -/
def execClockStep (s : State) : Result := .next (showClockStep s)

/-- REFERENCE_PULSE at an internal time (R132 to R134). -/
def execReferencePulse (time : Nat) (s : State) : Result := .next (referencePulseAt time s)

/-- SILENCE_LIMIT: in LOCKED the silence passes its limit; nothing in another state (R134). -/
def execSilenceLimit (s : State) : Result := .next (silenceLimitAt s)

/-- HOLDOVER_EXPIRY: in HOLDOVER the 2 000 ms end; nothing in another state (R134). -/
def execHoldoverExpiry (s : State) : Result := .next (holdoverExpiryAt s)

/-- Payload of the CLOCK_CONFIG reply (R135). -/
def clockConfigBytes (k : Clock) : List Byte := byte (clockSourceCode k.source) ++ byte k.rate ++ byte k.lock.code

/-- The rule of CLOCK_CONFIG (R135). -/
def ruleClockConfig (f : Option ClockFields) (s : State) : Ruling :=
  match f with
  | none => .ok (clockConfigBytes s.clock, s)
  | some f => do
    let source ← orRange (clockSourceOf? f.source)
    let rate ← orRange (rateOf? f.rate)
    let s := configureClock source rate s
    .ok (clockConfigBytes s.clock, s)

/-- CLOCK_CONFIG (R135). -/
def execClockConfig (tag : Byte) (form : Form (Option ClockFields)) (s : State) : Result :=
  .next (judge tag 0x70 form ruleClockConfig (taken (.clockConfig tag form) s))

/-- The rule of CLOCK_SET (R136). -/
def ruleClockSet (t : Nat) (s : State) : Ruling := do
  let t ← orRange (within? 0 Config.maxShowTime t)
  .ok (bytesOf 4 s.clock.showTime ++ bytesOf 4 t, setShowTime t s)

/-- CLOCK_SET (R136). -/
def execClockSet (tag : Byte) (form : Form Nat) (s : State) : Result :=
  .next (judge tag 0x71 form ruleClockSet (taken (.clockSet tag form) s))

/-- The acquisition count, where present (R129). -/
def LockState.count : LockState → Option Nat
  | .acquiring n => some n
  | _ => none

/-- The holdover elapsed in ms, where present (R129). -/
def LockState.elapsedMs : LockState → Option Nat
  | .holdover us => some (us / 1000)
  | _ => none

/-- Payload of the CLOCK_READ reply (R137; log 19). -/
def clockBytes (k : Clock) : List Byte :=
  bytesOf 4 k.showTime ++ byte (clockSourceCode k.source) ++ byte k.rate ++ byte k.lock.code ++ signed 2 k.rho ++
    optBytes 1 k.lock.count ++ optBytes 2 k.lock.elapsedMs

/-- CLOCK_READ (R137). -/
def execClockRead (tag : Byte) (form : Form Unit) (s : State) : Result :=
  .next (judge tag 0x72 form (fun _ s => .ok (clockBytes s.clock, s)) (taken (.clockRead tag form) s))

end Sys2Proof.Machine
end

