-- ==== Sys2Proof/Machine/Surface.lean ====
section
/-! DEFINITION. The commands of the Surface Controller (spec/09_the_fader_surface.md). -/

namespace Sys2Proof.Machine

/-! ## Scans -/

/-- SCAN (R141). -/
def execScan (strip : StripNo) (raw : Fin 4096) (touch : Byte) (s : State) : Result := .next (scanStrip strip raw touch s)

/-- A scan taken only where its outcome is the one a row names (log 4). -/
def scanFor (outcome : Strip → Strip → Bool) (strip : StripNo) (raw : Fin 4096) (touch : Byte) (s : State) : State :=
  if outcome (s.strip strip) ((scanStrip strip raw touch s).strip strip) then scanStrip strip raw touch s else s

/-- The still time declared a release: a strip with the implied mark leaves TOUCHED (R147, R144). -/
def impliedReleaseMade (old new : Strip) : Bool :=
  match old.state with
  | .touched (some _) => !new.isTouched
  | _ => false

/-- IMPLIED_RELEASE (R147, R144). -/
def execImpliedRelease (strip : StripNo) (raw : Fin 4096) (touch : Byte) (s : State) : Result :=
  .next (scanFor impliedReleaseMade strip raw touch s)

/-- The seek arrived: SEEKING to TRACKING (R146). -/
def seekMade (old new : Strip) : Bool :=
  match old.state, new.state with
  | .seeking _, .tracking _ => true
  | _, _ => false

/-- SEEK_ARRIVED (R146). -/
def execSeekArrived (strip : StripNo) (raw : Fin 4096) (touch : Byte) (s : State) : Result :=
  .next (scanFor seekMade strip raw touch s)

/-- The seek timed out: the timeout count rises (R146). -/
def seekTimedOut (old new : Strip) : Bool := old.timeouts < new.timeouts

/-- SEEK_TIMEOUT (R146). -/
def execSeekTimeout (strip : StripNo) (raw : Fin 4096) (touch : Byte) (s : State) : Result :=
  .next (scanFor seekTimedOut strip raw touch s)

/-- A calibration is measuring: CALIBRATING in any phase but WAIT_RELEASE. -/
def measuring (r : Strip) : Option CalPhase :=
  match r.state with
  | .calibrating cal => if cal.phase = .waitRelease then none else some cal.phase
  | _ => none

/-- A phase of a calibration ended: another phase follows, or the check was made (R152). -/
def phaseEnded (old new : Strip) : Bool :=
  match measuring old, measuring new with
  | some p, some q => p ≠ q
  | some _, none => new.result = some .ok || new.result = some .fail
  | none, _ => false

/-- CALIBRATION_PHASE_END (R152). -/
def execCalibrationPhaseEnd (strip : StripNo) (raw : Fin 4096) (touch : Byte) (s : State) : Result :=
  .next (scanFor phaseEnded strip raw touch s)

/-- A calibration timed out (R152). -/
def calibrationTimedOut (old new : Strip) : Bool :=
  (measuring old).isSome && (measuring new).isNone && new.result = some .timeout

/-- CALIBRATION_TIMEOUT (R152). -/
def execCalibrationTimeout (strip : StripNo) (raw : Fin 4096) (touch : Byte) (s : State) : Result :=
  .next (scanFor calibrationTimedOut strip raw touch s)

/-! ## Events and keys -/

/-- MOTOR_TARGET (R145). -/
def execMotorTarget (strip : StripNo) (c : ChanNo) (p : Position) (s : State) : Result :=
  .next (motorTargetAt strip c p (s.take (.motorTarget strip c p)))

/-- LAMP_EVENT (R151). -/
def execLampEvent (strip : StripNo) (c : ChanNo) (lit : Bool) (s : State) : Result :=
  .next (lampAt strip c lit (s.take (.lampEvent strip c lit)))

/-- MUTE_KEY_PRESS: at a strip in range that holds a channel, that channel is handed a mute key event (R151). -/
def execMuteKeyPress (strip : StripNo) (s : State) : Result :=
  .next (match (s.strip strip).channel with
    | some c => if s.surface.settings.inRange strip then s.hand [.muteKeyEvent c] else s
    | none => s)

/-- BANK_KEY_PRESS (R150). -/
def execBankKeyPress (bank : BankNo) (s : State) : Result := .next (selectBank bank s)

/-! ## Requests -/

/-- Payload of the BANK_MAP readout (R149). -/
def bankBytes (b : Bank) : List Byte := b.toList.flatMap numberByte

/-- Entries written into a bank (R149). -/
def writeBank (b : Bank) (es : List (StripNo × Option ChanNo)) : Bank := es.foldl (fun b e => b.set e.1 e.2) b

/-- A bank maps no channel to two strips (R148). -/
def bankLegal (b : Bank) : Bool := (b.toList.filterMap id).Nodup

/-- The rule of BANK_MAP (R149). -/
def ruleBankMap (f : BankMapFields) (s : State) : Ruling := do
  let b ← orRange (finOf? 4 f.bank)
  match f.write with
  | none => .ok (bankBytes s.surface.banks[b], s)
  | some w => do
    let strips ← orRange (rangeOf? 24 24 w.1 w.2.length)
    let entries ← orRange (w.2.mapM (present? (finOf? 96)))
    let bank := writeBank s.surface.banks[b] (strips.zip entries)
    refuseIf (!bankLegal bank) .conflict
    let s := { s with surface := { s.surface with banks := s.surface.banks.set b bank } }
    .ok ([], if b = s.surface.activeBank then assignmentPass s else s)

/-- BANK_MAP (R149). -/
def execBankMap (tag : Byte) (form : Form BankMapFields) (s : State) : Result :=
  .next (judge tag 0x50 form ruleBankMap (taken (.bankMap tag form) s))

/-- The rule of BANK_SELECT (R150). -/
def ruleBankSelect (n : Nat) (s : State) : Ruling := do
  let b ← orRange (finOf? 4 n)
  .ok (byte b.val, selectBank b s)

/-- BANK_SELECT (R150). -/
def execBankSelect (tag : Byte) (form : Form Nat) (s : State) : Result :=
  .next (judge tag 0x51 form ruleBankSelect (taken (.bankSelect tag form) s))

/-- The strip is ABSENT or TOUCHED (R154). -/
def Strip.unready (r : Strip) : Bool := r.state = .absent || r.isTouched

/-- The strip is CALIBRATING, in any phase (R154). -/
def Strip.isCalibrating (r : Strip) : Bool :=
  match r.state with
  | .calibrating _ => true
  | _ => false

/-- The rule of STRIP_CALIBRATE (R154). -/
def ruleStripCalibrate (ns : List Nat) (s : State) : Ruling := do
  let strips ← orRange (listOf? 24 24 ns)
  refuseIf (strips.any fun n => (s.strip n).unready) .state
  refuseIf (strips.any fun n => (s.strip n).isCalibrating) .busy
  .ok (byte strips.length, strips.foldl (fun s n => startCalibration n s) s)

/-- STRIP_CALIBRATE (R154). -/
def execStripCalibrate (tag : Byte) (form : Form (List Nat)) (s : State) : Result :=
  .next (judge tag 0x52 form ruleStripCalibrate (taken (.stripCalibrate tag form) s))

/-- Payload of the SURFACE_CONFIG reply: the settings of R140 but the active bank (R155). -/
def surfaceBytes (x : SurfaceSettings) : List Byte :=
  byte x.start ++ byte x.stop ++ byte x.touch ++ byte x.release ++ byte x.debounce ++ byte x.hysteresis ++ byte x.drift

/-- The settings SURFACE_CONFIG writes, checked; a scan stop below the scan start becomes it (R155). -/
def surfaceSettingsOf? (f : SurfaceFields) : Option SurfaceSettings := do
  let start ← within? 0 23 f.start
  let stop ← within? 0 23 f.stop
  let touch ← within? 1 255 f.touch
  let release ← within? 0 (touch - 1) f.release
  let debounce ← within? 1 8 f.debounce
  let hysteresis ← within? 0 15 f.hysteresis
  let drift ← within? 5 255 f.drift
  some { start, stop := max start stop, touch, release, debounce, hysteresis, drift }

/-- A fine offset, −7 to +7 (R155). -/
def fineOf? (x : Int) : Option Int := if -7 ≤ x ∧ x ≤ 7 then some x else none

/-- The rule of SURFACE_CONFIG (R155). -/
def ruleSurfaceConfig (f : SurfaceConfigFields) (s : State) : Ruling :=
  match f with
  | .read => .ok (surfaceBytes s.surface.settings, s)
  | .settings f => do
    let x ← orRange (surfaceSettingsOf? f)
    .ok (surfaceBytes x, writeSettings x s)
  | .fineOffset n x => do
    let n ← orRange (finOf? 24 n)
    let x ← orRange (fineOf? x)
    .ok (surfaceBytes s.surface.settings, s.setStrip n { s.strip n with fine := x })

/-- SURFACE_CONFIG (R155). -/
def execSurfaceConfig (tag : Byte) (form : Form SurfaceConfigFields) (s : State) : Result :=
  .next (judge tag 0x53 form ruleSurfaceConfig (taken (.surfaceConfig tag form) s))

/-- The implied mark, where present (R139). -/
def StripState.implied : StripState → Option Nat
  | .touched still => some (if still.isSome then 1 else 0)
  | _ => none

/-- The seek time, where present (R139). -/
def StripState.seekTime : StripState → Option Nat
  | .seeking t => some t
  | _ => none

/-- The drift count, where present (R139). -/
def StripState.driftCount : StripState → Option Nat
  | .tracking d => some d
  | _ => none

/-- The still time, where present (R139). -/
def StripState.stillTime : StripState → Option Nat
  | .touched still => still
  | _ => none

/-- Code of a calibration phase: its place in the list of R152. WAIT_RELEASE, which R153 names apart from that list, has the code
after them (DESIGN CHOICE, log 45). -/
def phaseCode : CalPhase → Nat
  | .bottomDrive => 0
  | .bottomSettle => 1
  | .topDrive => 2
  | .topSettle => 3
  | .waitRelease => 4

/-- The code of the calibration phase, where present. -/
def StripState.phase : StripState → Option Nat
  | .calibrating cal => some (phaseCode cal.phase)
  | _ => none

/-- One record of STRIP_READ (R157; log 19). -/
def stripBytes (s : State) (n : StripNo) : List Byte :=
  let r := s.strip n
  byte r.state.code ++ numberByte r.channel ++ numberByte (dueChannel s n) ++ bytesOf 2 r.raw ++
    bytesOf 2 r.converted.val ++ bytesOf 2 r.reported.val ++ mark r.reading ++ optBytes 1 r.state.implied ++
    positionBytes r.target ++ optBytes 2 r.state.seekTime ++ byte r.timeouts ++ optBytes 1 r.state.driftCount ++
    optBytes 1 r.state.stillTime ++ bytesOf 2 r.low ++ bytesOf 2 r.high ++ signed 1 r.fine ++
    optBytes 1 r.state.phase ++ optBytes 1 (r.result.map calResultCode)

/-- The rule of STRIP_READ (R157). -/
def ruleStripRead (f : RangeFields) (s : State) : Ruling := do
  let ns ← orRange (rangeOf? 24 24 f.first f.count)
  .ok (byte s.surface.activeBank.val ++ ns.flatMap (stripBytes s), s)

/-- STRIP_READ (R157). -/
def execStripRead (tag : Byte) (form : Form RangeFields) (s : State) : Result :=
  .next (judge tag 0x54 form ruleStripRead (taken (.stripRead tag form) s))

end Sys2Proof.Machine
end

