-- ==== Sys2Proof/Machine/Trims.lean ====
section
/-! DEFINITION. The commands of the Trim Memory (spec/03_trim_memory.md). -/

namespace Sys2Proof.Machine

/-- LEARN (R50). -/
def execLearn (c : ChanNo) (t : Trim) (s : State) : Result :=
  let s := s.take (.learn c t)
  .next (s.setTrims (s.trims.write c t))

/-- ROTATION, ordered by an aging cue (R51). -/
def execRotation (s : State) : Result :=
  let s := s.take .rotation
  .next (s.setTrims s.trims.rotate)

/-- Code of a table's name. -/
def tableCode : TrimTable → Nat
  | .a => 0
  | .b => 1
  | .c => 2

/-- The tables playing Current, Next and Spare (R55, R57). -/
def roleBytes (m : TrimMemory) : List Byte := byte (tableCode m.current) ++ byte (tableCode m.next) ++ byte (tableCode m.spare)

/-- A write by request: the count of channels whose trim in Current changed is the reply (R54, R56). -/
def trimWrite (m : TrimMemory) (s : State) : Ruling := .ok (byte (trimChanges s.trims m).length, s.setTrims m)

/-- The memory with one trim written into Current and Next for each channel (R54). -/
def TrimMemory.writeEach (m : TrimMemory) (ts : List (ChanNo × Trim)) : TrimMemory :=
  ts.foldl (fun m e => m.write e.1 e.2) m

/-- The rule of TRIM_SET (R54). -/
def ruleTrimSet (f : TrimSetFields) (s : State) : Ruling := do
  let cs ← orRange (rangeOf? 96 16 f.first f.trims.length)
  let ts ← orRange (f.trims.mapM trimOf?)
  trimWrite (s.trims.writeEach (cs.zip ts)) s

/-- TRIM_SET (R54). -/
def execTrimSet (tag : Byte) (form : Form TrimSetFields) (s : State) : Result :=
  .next (judge tag 0x38 form ruleTrimSet (taken (.trimSet tag form) s))

/-- TRIM_ROTATE (R55). -/
def execTrimRotate (tag : Byte) (form : Form Unit) (s : State) : Result :=
  .next (judge tag 0x39 form (fun _ s => .ok (roleBytes s.trims.rotate, s.setTrims s.trims.rotate))
    (taken (.trimRotate tag form) s))

/-- The rule of TRIM_CLEAR; `none` is ALL (R56). -/
def ruleTrimClear (n : Option Nat) (s : State) : Ruling := do
  match ← orRange (present? (finOf? 96) n) with
  | some c => trimWrite (s.trims.clearChannel c) s
  | none => trimWrite s.trims.clearAll s

/-- TRIM_CLEAR (R56). -/
def execTrimClear (tag : Byte) (form : Form (Option Nat)) (s : State) : Result :=
  .next (judge tag 0x3A form ruleTrimClear (taken (.trimClear tag form) s))

/-- Payload of the TRIM_READ reply (R57). -/
def trimBytes (m : TrimMemory) (cs : List ChanNo) : List Byte :=
  roleBytes m ++ cs.flatMap fun c => signed 2 (m.inCurrent c).val ++ signed 2 (m.inNext c).val

/-- The rule of TRIM_READ (R57). -/
def ruleTrimRead (f : RangeFields) (s : State) : Ruling := do
  let cs ← orRange (rangeOf? 96 16 f.first f.count)
  .ok (trimBytes s.trims cs, s)

/-- TRIM_READ (R57). -/
def execTrimRead (tag : Byte) (form : Form RangeFields) (s : State) : Result :=
  .next (judge tag 0x3B form ruleTrimRead (taken (.trimRead tag form) s))

end Sys2Proof.Machine
end

