-- ==== Sys2Proof/Machine/Dispatch.lean ====
section
/-! DEFINITION. The meaning of every command, one arm per row of spec/opcode_table.json. -/

namespace Sys2Proof.Machine

def exec (i : Instr) (s : State) : Host.Outcome State Fault Refusal :=
  match i with
  | .powerOn rate1 rate0 => Sys2Proof.Machine.execPowerOn rate1 rate0 s
  | .lineError => Sys2Proof.Machine.execLineError s
  | .receiveGap => Sys2Proof.Machine.execReceiveGap s
  | .frameLenInvalid b => Sys2Proof.Machine.execFrameLenInvalid b s
  | .frameReceived b => Sys2Proof.Machine.execFrameReceived b s
  | .unknown tag code => Sys2Proof.Machine.execUnknown tag code s
  | .replyFrame => Sys2Proof.Machine.execReplyFrame s
  | .reportFrame => Sys2Proof.Machine.execReportFrame s
  | .frameSent => Sys2Proof.Machine.execFrameSent s
  | .ident tag form => Sys2Proof.Machine.execIdent tag form s
  | .heartbeat tag form => Sys2Proof.Machine.execHeartbeat tag form s
  | .status tag form => Sys2Proof.Machine.execStatus tag form s
  | .resetPlayback tag form => Sys2Proof.Machine.execResetPlayback tag form s
  | .resetSurface tag form => Sys2Proof.Machine.execResetSurface tag form s
  | .resetLinks tag form => Sys2Proof.Machine.execResetLinks tag form s
  | .resetAll tag form => Sys2Proof.Machine.execResetAll tag form s
  | .resetTakesEffect => Sys2Proof.Machine.execResetTakesEffect s
  | .reportMode tag form => Sys2Proof.Machine.execReportMode tag form s
  | .watchSet tag form => Sys2Proof.Machine.execWatchSet tag form s
  | .heartbeatConfig tag form => Sys2Proof.Machine.execHeartbeatConfig tag form s
  | .portClockStep showTime => Sys2Proof.Machine.execPortClockStep s showTime
  | .heartbeatLate => Sys2Proof.Machine.execHeartbeatLate s
  | .cueLoad tag form => Sys2Proof.Machine.execCueLoad tag form s
  | .cueDelete tag form => Sys2Proof.Machine.execCueDelete tag form s
  | .cueRead tag form => Sys2Proof.Machine.execCueRead tag form s
  | .listClear tag form => Sys2Proof.Machine.execListClear tag form s
  | .listInfo tag form => Sys2Proof.Machine.execListInfo tag form s
  | .listEdited edit count => Sys2Proof.Machine.execListEdited edit count s
  | .go tag form => Sys2Proof.Machine.execGo tag form s
  | .back tag form => Sys2Proof.Machine.execBack tag form s
  | .goto tag form => Sys2Proof.Machine.execGoto tag form s
  | .gotoFire tag form => Sys2Proof.Machine.execGotoFire tag form s
  | .hold tag form => Sys2Proof.Machine.execHold tag form s
  | .resume tag form => Sys2Proof.Machine.execResume tag form s
  | .stop tag form => Sys2Proof.Machine.execStop tag form s
  | .scheduleAdd tag form => Sys2Proof.Machine.execScheduleAdd tag form s
  | .scheduleCancel tag form => Sys2Proof.Machine.execScheduleCancel tag form s
  | .playbackRead tag form => Sys2Proof.Machine.execPlaybackRead tag form s
  | .playbackConfig tag form => Sys2Proof.Machine.execPlaybackConfig tag form s
  | .sequencerClockStep showTime => Sys2Proof.Machine.execSequencerClockStep showTime s
  | .followExpiry showTime => Sys2Proof.Machine.execFollowExpiry showTime s
  | .scheduleTriggerDue showTime => Sys2Proof.Machine.execScheduleTriggerDue showTime s
  | .showTimeSet old new => Sys2Proof.Machine.execShowTimeSet old new s
  | .effectiveActionAtSequencer a => Sys2Proof.Machine.execEffectiveActionAtSequencer a s
  | .cueFire cue records back => Sys2Proof.Machine.execCueFire cue records back s
  | .moveEngineClockStep showTime => Sys2Proof.Machine.execMoveEngineClockStep s showTime
  | .moveStart id => Sys2Proof.Machine.execMoveStart id s
  | .moveCompleted id => Sys2Proof.Machine.execMoveCompleted id s
  | .channelYielded c => Sys2Proof.Machine.execChannelYielded c s
  | .channelMadeSafe c => Sys2Proof.Machine.execChannelMadeSafe c s
  | .cancellation => Sys2Proof.Machine.execCancellation s
  | .playbackHeld => Sys2Proof.Machine.execPlaybackHeld s
  | .playbackResumed => Sys2Proof.Machine.execPlaybackResumed s
  | .chanSet tag form => Sys2Proof.Machine.execChanSet tag form s
  | .chanConfig tag form => Sys2Proof.Machine.execChanConfig tag form s
  | .chanRead tag form => Sys2Proof.Machine.execChanRead tag form s
  | .muteSet tag form => Sys2Proof.Machine.execMuteSet tag form s
  | .chanRelease tag form => Sys2Proof.Machine.execChanRelease tag form s
  | .levelConfig tag form => Sys2Proof.Machine.execLevelConfig tag form s
  | .channelClockStep c showTime => Sys2Proof.Machine.execChannelClockStep c s showTime
  | .glideEnd c => Sys2Proof.Machine.execGlideEnd c s
  | .safeGlideEnd c => Sys2Proof.Machine.execSafeGlideEnd c s
  | .settling c => Sys2Proof.Machine.execSettling c s
  | .automationPositionChanged c p => Sys2Proof.Machine.execAutomationPositionChanged c p s
  | .currentTrimChanged c t => Sys2Proof.Machine.execCurrentTrimChanged c t s
  | .touchEvent c strip p => Sys2Proof.Machine.execTouchEvent c strip p s
  | .operatorPosition c strip p => Sys2Proof.Machine.execOperatorPosition c strip p s
  | .releaseEvent c strip reset => Sys2Proof.Machine.execReleaseEvent c strip reset s
  | .effectiveActionChanged c a => Sys2Proof.Machine.execEffectiveActionChanged c a s
  | .muteKeyEvent c => Sys2Proof.Machine.execMuteKeyEvent c s
  | .muteAction c on => Sys2Proof.Machine.execMuteAction c on s
  | .masterChanged c g => Sys2Proof.Machine.execMasterChanged c g s
  | .masterMuteChanged c g => Sys2Proof.Machine.execMasterMuteChanged c g s
  | .joinedGroup c g => Sys2Proof.Machine.execJoinedGroup c g s
  | .leftGroup c g => Sys2Proof.Machine.execLeftGroup c g s
  | .stripAssigned c strip => Sys2Proof.Machine.execStripAssigned c strip s
  | .stripReleased c strip => Sys2Proof.Machine.execStripReleased c strip s
  | .learn c t => Sys2Proof.Machine.execLearn c t s
  | .rotation => Sys2Proof.Machine.execRotation s
  | .trimSet tag form => Sys2Proof.Machine.execTrimSet tag form s
  | .trimRotate tag form => Sys2Proof.Machine.execTrimRotate tag form s
  | .trimClear tag form => Sys2Proof.Machine.execTrimClear tag form s
  | .trimRead tag form => Sys2Proof.Machine.execTrimRead tag form s
  | .groupMembers tag form => Sys2Proof.Machine.execGroupMembers tag form s
  | .groupSet tag form => Sys2Proof.Machine.execGroupSet tag form s
  | .groupMute tag form => Sys2Proof.Machine.execGroupMute tag form s
  | .groupRead tag form => Sys2Proof.Machine.execGroupRead tag form s
  | .masterPositionChanged g p => Sys2Proof.Machine.execMasterPositionChanged g p s
  | .masterMuteAction g on => Sys2Proof.Machine.execMasterMuteAction g on s
  | .scan strip raw touch => Sys2Proof.Machine.execScan strip raw touch s
  | .impliedRelease strip raw touch => Sys2Proof.Machine.execImpliedRelease strip raw touch s
  | .seekArrived strip raw touch => Sys2Proof.Machine.execSeekArrived strip raw touch s
  | .seekTimeout strip raw touch => Sys2Proof.Machine.execSeekTimeout strip raw touch s
  | .calibrationPhaseEnd strip raw touch => Sys2Proof.Machine.execCalibrationPhaseEnd strip raw touch s
  | .calibrationTimeout strip raw touch => Sys2Proof.Machine.execCalibrationTimeout strip raw touch s
  | .motorTarget strip c p => Sys2Proof.Machine.execMotorTarget strip c p s
  | .lampEvent strip c lit => Sys2Proof.Machine.execLampEvent strip c lit s
  | .muteKeyPress strip => Sys2Proof.Machine.execMuteKeyPress strip s
  | .bankKeyPress bank => Sys2Proof.Machine.execBankKeyPress bank s
  | .bankMap tag form => Sys2Proof.Machine.execBankMap tag form s
  | .bankSelect tag form => Sys2Proof.Machine.execBankSelect tag form s
  | .stripCalibrate tag form => Sys2Proof.Machine.execStripCalibrate tag form s
  | .surfaceConfig tag form => Sys2Proof.Machine.execSurfaceConfig tag form s
  | .stripRead tag form => Sys2Proof.Machine.execStripRead tag form s
  | .linkClockStep l showTime => Sys2Proof.Machine.execLinkClockStep l s showTime
  | .helloUnanswered l => Sys2Proof.Machine.execHelloUnanswered l s
  | .ready l => Sys2Proof.Machine.execReady l s
  | .keepalive l => Sys2Proof.Machine.execKeepalive l s
  | .keepaliveAcknowledgement l => Sys2Proof.Machine.execKeepaliveAcknowledgement l s
  | .keepaliveLost l => Sys2Proof.Machine.execKeepaliveLost l s
  | .linkMessageDiscard l message => Sys2Proof.Machine.execLinkMessageDiscard l message s
  | .linkMessageGap l => Sys2Proof.Machine.execLinkMessageGap l s
  | .outputGainChanged l c o settled => Sys2Proof.Machine.execOutputGainChanged l c o settled s
  | .channelSettled l c o => Sys2Proof.Machine.execChannelSettled l c o s
  | .updateFrame l time => Sys2Proof.Machine.execUpdateFrame l time s
  | .sourceTripped l => Sys2Proof.Machine.execSourceTripped l s
  | .sourceCleared l => Sys2Proof.Machine.execSourceCleared l s
  | .slotMap tag form => Sys2Proof.Machine.execSlotMap tag form s
  | .linkConfig tag form => Sys2Proof.Machine.execLinkConfig tag form s
  | .linkRead tag form => Sys2Proof.Machine.execLinkRead tag form s
  | .clockStep => Sys2Proof.Machine.execClockStep s
  | .referencePulse time => Sys2Proof.Machine.execReferencePulse time s
  | .silenceLimit => Sys2Proof.Machine.execSilenceLimit s
  | .holdoverExpiry => Sys2Proof.Machine.execHoldoverExpiry s
  | .clockConfig tag form => Sys2Proof.Machine.execClockConfig tag form s
  | .clockSet tag form => Sys2Proof.Machine.execClockSet tag form s
  | .clockRead tag form => Sys2Proof.Machine.execClockRead tag form s
  | .occurrence src => Sys2Proof.Machine.execOccurrence src s
  | .goodEvent src => Sys2Proof.Machine.execGoodEvent src s
  | .faultConfig tag form => Sys2Proof.Machine.execFaultConfig tag form s
  | .faultClear tag form => Sys2Proof.Machine.execFaultClear tag form s
  | .faultTest tag form => Sys2Proof.Machine.execFaultTest tag form s
  | .faultRead tag form => Sys2Proof.Machine.execFaultRead tag form s
  | .byteReceived b => Sys2Proof.Machine.execByteReceived b s

end Sys2Proof.Machine
end

