-- ==== Sys2Proof/Safety.lean ====
section
/-! DEFINITION. The terms claims are stated in: what a command leaves alone, and the laws the manual says the part keeps. -/

namespace Sys2Proof.Machine

/-! ## Frames -/

/-- The parts of the state a frame names. `reports` is the report queue with REPORT_LOST, `port` the rest of the port. -/
inductive Part where
  | pending | handed | sent | reports | port | store | seq | engine | levels | channels | trims | groups | surface | links
  | clock | faults
deriving DecidableEq, Repr

/-- A part is the same in two states. -/
def Part.same : Part → State → State → Prop
  | .pending, s, t => t.pending = s.pending
  | .handed, s, t => t.handed = s.handed
  | .sent, s, t => t.sent = s.sent
  | .reports, s, t => t.port.reports = s.port.reports ∧ t.port.flags.reportLost = s.port.flags.reportLost
  | .port, s, t =>
    t.port = { s.port with reports := t.port.reports, flags := { s.port.flags with reportLost := t.port.flags.reportLost } }
  | .store, s, t => t.store = s.store
  | .seq, s, t => t.seq = s.seq
  | .engine, s, t => t.engine = s.engine
  | .levels, s, t => t.levels = s.levels
  | .channels, s, t => t.channels = s.channels
  | .trims, s, t => t.trims = s.trims
  | .groups, s, t => t.groups = s.groups
  | .surface, s, t => t.surface = s.surface
  | .links, s, t => t.links = s.links
  | .clock, s, t => t.clock = s.clock
  | .faults, s, t => t.faults = s.faults

/-- Nothing but these parts differs. -/
structure KeepsBut (ps : List Part) (s t : State) : Prop where
  same : ∀ p, p ∉ ps → p.same s t

/-- No channel but `c` differs. -/
def OnlyChannel (c : ChanNo) (s t : State) : Prop := ∀ d, d ≠ c → t.channel d = s.channel d

/-- No strip but `n` differs. -/
def OnlyStrip (n : StripNo) (s t : State) : Prop := ∀ m, m ≠ n → t.strip m = s.strip m

/-- No link but `l` differs. -/
def OnlyLink (l : LinkNo) (s t : State) : Prop := ∀ k, k ≠ l → t.link k = s.link k

/-! ## Requests and runs -/

/-- The port is free to take a request: no reply is on its way, and no RESET waits (R186, R195). -/
def PortFree (s : State) : Prop := s.port.reply = none ∧ s.port.resetWaiting = none

/-- The reply that answers command `c`, as the port makes it: PORT_BUSY counts the requests that wait behind it (R186). -/
def replyTo (c : Instr) (tag code : Byte) (st : Status) (payload : List Byte) (s : State) : Reply :=
  { tag := tag, code := code, status := st, busy := portBusy (popRequest c s).port, payload := payload }

/-- Command `c` is answered: of the port, the request has left the head of the queue where it stood there, the reply buffer
holds this reply, and but for the report queue and REPORT_LOST nothing else differs. -/
def Answered (c : Instr) (tag code : Byte) (st : Status) (payload : List Byte) (s t : State) : Prop :=
  t.port =
    { s.port with
      inbound := (popRequest c s).port.inbound
      reply := some (replyTo c tag code st payload s)
      reports := t.port.reports
      flags := { s.port.flags with reportLost := t.port.flags.reportLost } }

/-- Commands executed one after the other; none where one does not answer a next state. -/
def run : List Instr → State → Option State
  | [], s => some s
  | c :: cs, s =>
    match exec c s with
    | .next t => run cs t
    | .fault _ => none
    | .refused _ => none

/-! ## Cue loads -/

/-- The rules of form of a target specification (R93). -/
def targetsInForm : RawTargets → Prop
  | .list ns => 1 ≤ ns.length ∧ ns.length ≤ 16 ∧ (∀ n ∈ ns, n ≤ 95) ∧ ns.Pairwise (· < ·)
  | .range a b => a ≤ b ∧ b ≤ 95
  | .members g => g ≤ 15
  | .master g => g ≤ 15

/-- Each field of a record is within its values (R92, R93). -/
def recordInRange (r : RawRecord) : Prop :=
  targetsInForm r.targets ∧ r.level ≤ 1023 ∧ r.delay ≤ 600000 ∧ r.time ≤ 600000 ∧ r.curve ≤ 3 ∧ r.mute ≤ 2

/-- Each field of a cue header is within its values (R91). -/
def headerInRange (h : RawHeader) : Prop :=
  h.label.length ≤ 16 ∧ (∀ x ∈ h.label, 0x20 ≤ x.toNat ∧ x.toNat ≤ 0x7E) ∧ (∀ n ∈ h.follow, 1 ≤ n ∧ n ≤ 600000) ∧
    (∀ n ∈ h.link, 1 ≤ n ∧ n ≤ 99999) ∧ h.age ≤ 1

/-- The records the buffer stages before a part: none before part 0 (R97). -/
def stagedBefore (b : Option LoadBuffer) (f : CueLoadFields) : List MoveRecord :=
  if f.part = 0 then [] else (b.map LoadBuffer.staged).getD []

/-- The second check of a CUE_LOAD part: ranges and forms (R97). -/
def partInRange (b : Option LoadBuffer) (f : CueLoadFields) : Prop :=
  1 ≤ f.cue ∧ f.cue ≤ 99999 ∧ f.last ≤ 1 ∧ (f.part ≠ 0 → 1 ≤ f.records.length) ∧ f.records.length ≤ 6 ∧
    (∀ h ∈ f.header, headerInRange h) ∧ (∀ r ∈ f.records, recordInRange r) ∧
    (stagedBefore b f).length + f.records.length ≤ 64

/-- Targets as a part carries them. -/
def carriedTargets : Targets → RawTargets
  | .list cs => .list (cs.map Fin.val)
  | .range a b => .range a.val b.val
  | .members g => .members g.val
  | .master g => .master g.val

/-- A move record as a part carries it (R196). -/
def carriedRecord (r : MoveRecord) : RawRecord :=
  { targets := carriedTargets r.targets
    level := r.level.val
    delay := r.delay
    time := r.time
    curve := curveCode r.curve
    mute := muteCode r.mute }

/-- A cue header as part 0 carries it (R196). -/
def carriedHeader (h : CueHeader) : RawHeader :=
  { label := h.label, follow := h.follow, link := h.link, age := if h.age then 1 else 0 }

/-! ## Fires -/

/-- The report queue and REPORT_LOST after the reports `rs` are offered one after the other. -/
def OfferedEach (rs : List Report) (s t : State) : Prop :=
  t.port.reports = (rs.foldl Port.offer s.port).reports ∧
    t.port.flags.reportLost = (rs.foldl Port.offer s.port).flags.reportLost

/-- The state a playback is in outside a hold, by the first condition of R109 that holds. -/
def playStateBy (follow : Option Follow) (listEmpty : Bool) (standby : Option Nat) : PlayState :=
  if follow ≠ none then .following else if listEmpty then .empty else if standby ≠ none then .ready else .ended

/-- Cue `c` has fired with a cause other than BACK: the steps of R111, the standby of R112 and the state of R109. The fire
found the sequencer as `q`. -/
structure Fired (c : Cue) (cs : List Cue) (q r : Sequencer) : Prop where
  lastFired : r.lastFired = some c.number
  linked : ∀ n l, c.header.link = some n → lookupExact cs n = some l → r.standby = some n
  above : (∀ n, c.header.link = some n → lookupExact cs n = none) → r.standby = (lookupAbove cs c.number).map Cue.number
  follow : r.follow = c.header.follow.map fun f => { countdown := f, source := c.number }
  state : r.state = if q.state = .held then .held else playStateBy r.follow q.listEmpty r.standby
  kept : r.listEmpty = q.listEmpty ∧ r.schedule = q.schedule ∧ r.backTime = q.backTime ∧ r.action = q.action

/-- The events a fire of cue `c` by a cause other than BACK hands: the cue fire event, and the rotation order of an aging
cue (R111). -/
def fireEvents (c : Cue) : List Instr := .cueFire c.number c.records none :: if c.header.age then [.rotation] else []

/-- The triggers of a list are taken one after the other at show time `now`: each fires its cue, after a LATE report where
`late`, or is reported MISSED where the list has no such cue (R118, R123). The sequencer goes from `q` to `r`; `es` are handed
and `rs` offered. -/
def TriggersTaken (cs : List Cue) (cause : Cause) (late : Bool) (now : Nat) :
    List Trigger → Sequencer → Sequencer → List Instr → List Report → Prop
  | [], q, r, es, rs => r = q ∧ es = [] ∧ rs = []
  | x :: xs, q, r, es, rs =>
    (lookupExact cs x.cue = none → ∃ rest, rs = .schedule false x.cue x.time now :: rest ∧
      TriggersTaken cs cause late now xs q r es rest) ∧
    ∀ c, lookupExact cs x.cue = some c → ∃ p more rest, Fired c cs q p ∧ es = fireEvents c ++ more ∧
      rs = (if late then [.schedule true x.cue x.time now] else []) ++
        .cueFired c.number cause p.standby c.header.follow now :: rest ∧
      TriggersTaken cs cause late now xs p r more rest

/-! ## Moves -/

/-- No event of the Move Engine for target `x`, and no yield of it, is in flight. -/
def TargetQuiet (x : Target) (s : State) : Prop :=
  ∀ e ∈ s.handed, isMoveEvent x e = false ∧ ∀ c, x = .channel c → e ≠ .channelYielded c

/-- The channel of target `x` answers a start with a yield: TOUCHED under YIELD (R32). -/
def Yields (s : State) (x : Target) : Prop :=
  ∃ c, x = .channel c ∧ (s.channel c).owner = .touched ∧ (s.channel c).touchPolicy = .yield

/-- A MANUAL channel as a start leaves it: P_auto at the release position less the working trim, held within 0 to 1023, and
AUTO (R32). -/
def Channel.retaken (r : Channel) : Channel :=
  let w : Channel :=
    { r with owner := .auto, pAuto := clampPosition 0 (by decide) ((r.releasePos.val : Int) - r.workingTrim.val) }
  { w with pEff := w.autoValue }

/-- The position a start at target `x` begins from, where no yield answers it (R32, R64). -/
def startPosition (s : State) : Target → Position
  | .channel c => if (s.channel c).owner = .manual then (s.channel c).retaken.pAuto else (s.channel c).pAuto
  | .master g => (s.group g).master

/-- The MANUAL channel that a start at target `x` takes back. -/
def retakenAt (s : State) : Target → List ChanNo
  | .channel c => if (s.channel c).owner = .manual then [c] else []
  | .master _ => []

/-- The MOVE_END reports of moves that end with one result, where the move report mode offers it (R86, R88). -/
def endReports (s : State) (res : MoveResult) (ms : List Move) : List Report :=
  if s.engine.reports.offers res then ms.map fun m => .moveEnd m.id m.cue m.target res (finalPosition s m) else []

/-- The moves of the table that one event ends: the table without them, and their reports in table order (R83 to R86). -/
def MovesEnd (p : Move → Bool) (res : MoveResult) (s t : State) : Prop :=
  t.engine = { s.engine with moves := s.engine.moves.filter fun m => !p m } ∧
    OfferedEach (endReports s res (s.engine.moves.filter p)) s t

/-! ## Time -/

/-- One microsecond for the pace of the steps: it makes progress at the rate offset of the running interval, and where an interval
ends the next one runs at the rate offset in force, its fraction carried on (R131). -/
def Clock.tick (k : Clock) : Clock :=
  let c := k.carry + (1000000 + k.pace).toNat
  if c < 1000000000 then { k with now := k.now + 1, carry := c }
  else { k with now := k.now + 1, carry := c - 1000000000, due := k.due + 1, pace := k.rho }

/-- Some microseconds, one after the other. -/
def Clock.ticks : Nat → Clock → Clock
  | 0, k => k
  | n + 1, k => (Clock.ticks n k).tick

/-! ## Channels -/

/-- G, CLIP, T and SETTLED of channel `c` are those its inputs give (R5, R9, R12). -/
def LevelsWorkedOut (c : ChanNo) (t : State) : Prop :=
  ((t.channel c).gain, (t.channel c).clip) = channelGain t c ∧
    (t.channel c).target = targetGain (t.channel c).gain (t.channel c).mute ∧
    (t.channel c).settled = decide ((t.channel c).output = (t.channel c).target)

/-- Channel `c` has become settled. -/
def settles (c : ChanNo) (s t : State) : Bool := (t.channel c).settled && !(s.channel c).settled

/-- The channel settled events of a settling in which O stood (R14). -/
def settlingEvents (c : ChanNo) (s t : State) : List Instr :=
  if settles c s t then allLinks.map fun l => .channelSettled l c (t.channel c).output else []

/-- The LEVEL report of a settling (R14). -/
def settlingReports (c : ChanNo) (s t : State) : List Report :=
  if settles c s t then [.level c (t.channel c).output (t.channel c).clip] else []

/-- The MANUAL channels `cs` are AUTO again, G, T and SETTLED worked out where P_eff changed (R32, R6); no other channel has
changed. -/
structure Retaken (cs : List ChanNo) (s t : State) : Prop where
  others : ∀ c, c ∉ cs → t.channel c = s.channel c
  record : ∀ c ∈ cs,
    t.channel c =
      { (s.channel c).retaken with
        gain := (t.channel c).gain
        clip := (t.channel c).clip
        target := (t.channel c).target
        settled := (t.channel c).settled }
  stood : ∀ c ∈ cs, (s.channel c).retaken.pEff = (s.channel c).pEff → t.channel c = (s.channel c).retaken
  moved : ∀ c ∈ cs, (s.channel c).retaken.pEff ≠ (s.channel c).pEff → LevelsWorkedOut c t

/-- What the channels `cs` hand on as starts take them back: the motor target of a changed P_eff, and a settling (R23, R14). -/
def retakenEvents (cs : List ChanNo) (s t : State) : List Instr :=
  cs.flatMap fun c =>
    (if (s.channel c).retaken.pEff = (s.channel c).pEff then []
      else (s.channel c).strip.toList.map fun n => .motorTarget n c (s.channel c).retaken.pEff) ++
    settlingEvents c s t

/-- Channel `c` has taken the ownership fields of `w`. P_eff, where it changed, has gone to the strip and to the level
computation (R23, R6); a freeze that ended has thawed (R15); M and O stand, and `extra` is handed last. -/
structure TakesPosition (c : ChanNo) (w : Channel) (extra : List Instr) (s t : State) : Prop where
  record :
    t.channel c =
      { w with
        gain := (t.channel c).gain
        clip := (t.channel c).clip
        muteGoal := (t.channel c).muteGoal
        target := (t.channel c).target
        settled := (t.channel c).settled }
  thawed : (s.channel c).frozen = true → w.frozen = false →
    LevelsWorkedOut c t ∧ (t.channel c).muteGoal = muteGoalOf (effectiveMute t c)
  moved : (s.channel c).frozen = false → w.pEff ≠ (s.channel c).pEff →
    LevelsWorkedOut c t ∧ (t.channel c).muteGoal = (s.channel c).muteGoal
  stood : w.pEff = (s.channel c).pEff → ((s.channel c).frozen = true → w.frozen = true) → t.channel c = w
  handed :
    t.handed =
      s.handed ++
        (if w.pEff = (s.channel c).pEff then [] else (s.channel c).strip.toList.map fun n => .motorTarget n c w.pEff) ++
        settlingEvents c s t ++ extra
  reports : OfferedEach (settlingReports c s t) s t
  others : OnlyChannel c s t
  rest : KeepsBut [.handed, .reports, .channels] s t

/-- Channel `c` has taken a change of what its mute is worked out from, or of its groups (R7, R40, R62): the lamp event of a
changed effective mute, the goal of M, G where `withGain` asks, T and SETTLED. While frozen only the lamp event. -/
structure TakesMute (c : ChanNo) (w : Channel) (withGain : Bool) (s t : State) : Prop where
  record :
    t.channel c =
      { w with
        seenMute := effectiveMute t c
        gain := (t.channel c).gain
        clip := (t.channel c).clip
        mute := (t.channel c).mute
        muteGoal := (t.channel c).muteGoal
        target := (t.channel c).target
        settled := (t.channel c).settled }
  frozen : w.frozen = true → t.channel c = { w with seenMute := effectiveMute t c }
  goal : w.frozen = false → (t.channel c).muteGoal = if effectiveMute t c then -900 else 0
  attenuation : w.frozen = false → (t.channel c).mute =
    if s.levels.muteRamp = 0 ∧ (t.channel c).muteGoal ≠ w.muteGoal then (t.channel c).muteGoal else w.mute
  gain : w.frozen = false →
    ((t.channel c).gain, (t.channel c).clip) = if withGain then channelGain t c else (w.gain, w.clip)
  target : w.frozen = false → (t.channel c).target = targetGain (t.channel c).gain (t.channel c).mute ∧
    (t.channel c).settled = decide ((t.channel c).output = (t.channel c).target)
  handed :
    t.handed =
      s.handed ++
        (if effectiveMute t c = w.seenMute then [] else w.strip.toList.map fun n => .lampEvent n c (effectiveMute t c)) ++
        settlingEvents c s t
  reports : OfferedEach (settlingReports c s t) s t
  others : OnlyChannel c s t
  rest : KeepsBut [.handed, .reports, .channels] s t

/-! ## The laws of the blocks -/

/-- A gain is OFF or −900 to +100 tenths (R1). -/
def Gain.legal : Gain → Bool
  | .off => true
  | .tenths x => -900 ≤ x && x ≤ 100

/-- The level fields of a channel lie in their ranges, and SETTLED says that O equals T (R1, R12). -/
def Channel.legal (r : Channel) : Bool :=
  Gain.legal r.gain && Gain.legal r.target && Gain.legal r.output && (-900 ≤ r.mute && r.mute ≤ 0) &&
    (r.muteGoal = 0 || r.muteGoal = -900) && (-200 ≤ r.staticTrim && r.staticTrim ≤ 100) &&
    (r.settled = decide (r.output = r.target))

/-- The device-wide level settings lie in their ranges (R1). -/
def Levels.legal (l : Levels) : Bool := l.glideTime ≤ 10000 && l.muteRamp ≤ 500 && 1 ≤ l.slew && l.slew ≤ 900

/-- Every channel's level fields and the level settings are legal. -/
def LevelsLegal (s : State) : Prop := s.levels.legal = true ∧ ∀ c, (s.channel c).legal = true

/-- The cue list stands in strictly increasing order within its capacities (R94). -/
def ListLegal (s : State) : Prop :=
  s.store.cues.Pairwise (fun a b => a.number < b.number) ∧ s.store.cues.length ≤ Config.maxCues ∧
    recordCount s.store.cues ≤ Config.maxRecords

/-- Every trim of the table playing Spare is 0 (R51, R57). -/
def SpareEmpty (s : State) : Prop := s.trims.table s.trims.spare = noTrims

/-- No channel is a member of more than four groups (R60). -/
def GroupsLegal (s : State) : Prop := ∀ c, (groupsOf s c).length ≤ Config.maxGroupsOfChannel

/-- The move table holds at most 128 moves, at most one of them RUNNING on any one target (R70). -/
def MovesLegal (s : State) : Prop :=
  s.engine.moves.length ≤ Config.maxMoves ∧
    s.engine.moves.Pairwise fun a b => ¬(a.isRunning = true ∧ b.isRunning = true ∧ a.target = b.target)

/-- The inbound queue holds at most 8 requests, the report queue at most 32 reports, at most one LEVEL report for any one
channel (R186, R191). -/
def QueuesLegal (s : State) : Prop :=
  s.port.inbound.length ≤ Config.maxInbound ∧ s.port.reports.length ≤ Config.maxReports ∧
    (s.port.reports.filterMap Report.levelChannel).Nodup

/-- No channel is the channel of more than one strip (R139). -/
def StripsLegal (s : State) : Prop := ∀ m n, (s.strip m).channel = (s.strip n).channel → (s.strip m).channel ≠ none → m = n

/-- A link's queue holds no slot twice and no stale slot, and a link that is not UP has nothing queued and nothing stale
(R165, R163). -/
def Link.legal (r : Link) : Prop :=
  (r.queue.map Prod.fst).Nodup ∧ (∀ slot ∈ r.stale, r.isQueued slot = false) ∧
    (r.isUp = false → r.queue = [] ∧ r.stale = [] ∧ r.congested = false)

/-- Every link is legal, and no link mirrors a mirror (R165, R171). -/
def LinksLegal (s : State) : Prop :=
  (∀ l, (s.link l).legal) ∧ ∀ l m, (s.link l).mirror = some m → (s.link m).mirror = none

/-- The clock record lies in its ranges, and each lock state goes with its source and holds the fields it has (R129, R131 to
R134). -/
def Clock.legal (k : Clock) : Bool :=
  (k.rate = 24 || k.rate = 25 || k.rate = 30) && k.showTime ≤ Config.maxShowTime && (-19608 ≤ k.rho && k.rho ≤ 20408) &&
    (-19608 ≤ k.pace && k.pace ≤ 20408) && k.carry < 1000000000 && k.history.length ≤ Config.lockPeriods &&
    k.history.all (acceptedPeriod k.rate) && k.mark.all (fun m => m ≤ k.now) &&
    match k.lock with
    | .free => k.source = .internal && k.rho = 0 && k.history = [] && k.mark = none
    | .acquiring n => k.source = .external && k.rho = 0 && n < Config.lockPeriods
    | .locked silence => k.source = .external && silence ≤ limitOfSilence k.rate
    | .holdover elapsed => k.source = .external && elapsed ≤ Config.holdoverLimit
    | .lost => k.source = .external && k.rho = 0 && k.history = [] && k.mark = none

/-- The clock record is legal. -/
def ClockLegal (s : State) : Prop := s.clock.legal = true

/-- The effective action is the most severe of the tripped sources, and counts are 0 exactly in CLEAR (R178, R175). -/
def FaultsLegal (s : State) : Prop :=
  s.faults.effective = s.faults.workedOut ∧ ∀ src, (s.source src).state = .clear ↔ (s.source src).count = 0

/-- Outside a hold the playback state is the one worked out, and under HOLD or a more severe action playback is HELD
(R109, R119). -/
def PlaybackLegal (s : State) : Prop :=
  (s.seq.state = .held ∨ s.seq.state = s.seq.workedOut) ∧ (holds s.seq.action = true → s.seq.state = .held)

end Sys2Proof.Machine
end

