-- ==== Sys2Proof/WellFormed.lean ====
section
/-! DEFINITION. Which commands can be given at all: a request's fields fit the bytes its payload has for them (R196), and what
an event carries lies within the values of the block that hands it. A well-formed request may still be refused. -/

namespace Sys2Proof

/-- A number fits `k` bytes. -/
def fits (k n : Nat) : Bool := n < 256 ^ k

/-- A whole number fits `k` bytes of two's complement. -/
def fitsSigned (k : Nat) (x : Int) : Bool := -((256 : Int) ^ k) ≤ 2 * x && 2 * x < (256 : Int) ^ k

/-- An optional number fits. -/
def fitsOpt (k : Nat) : Option Nat → Bool
  | some n => fits k n
  | none => true

/-- A list whose count fits one byte, each entry one byte. -/
def fitsList (ns : List Nat) : Bool := fits 1 ns.length && ns.all (fits 1)

/-- The check of a form's fields. -/
def Form.check {α : Type} (p : α → Bool) : Form α → Bool
  | .wrongLength => true
  | .fields a => p a

/-- The check of the fields of an optional whole form. -/
def checkWhole {α : Type} (p : α → Bool) : Option α → Bool
  | none => true
  | some a => p a

/-- Targets of a record a part carries. -/
def RawTargets.wellFormed : RawTargets → Bool
  | .list ns => fitsList ns
  | .range a b => fits 1 a && fits 1 b
  | .members g => fits 1 g
  | .master g => fits 1 g

/-- A record a part carries (R196). -/
def RawRecord.wellFormed (r : RawRecord) : Bool :=
  r.targets.wellFormed && fits 2 r.level && fits 3 r.delay && fits 3 r.time && fits 1 r.curve && fits 1 r.mute

/-- A header part 0 carries (R196). -/
def RawHeader.wellFormed (h : RawHeader) : Bool :=
  fits 1 h.label.length && fitsOpt 3 h.follow && fitsOpt 3 h.link && fits 1 h.age

/-- A part of a load (R97): part 0 and no other carries a header. -/
def CueLoadFields.wellFormed (f : CueLoadFields) : Bool :=
  fits 3 f.cue && fits 1 f.part && fits 1 f.last && (decide (f.part = 0) == f.header.isSome) &&
    checkWhole RawHeader.wellFormed f.header && fits 1 f.records.length && f.records.all RawRecord.wellFormed

/-- A cue number of the list. -/
def isCue (n : Nat) : Bool := 1 ≤ n && n ≤ Config.maxCue

/-- A show time. -/
def isShowTime (t : Nat) : Bool := t ≤ Config.maxShowTime

/-- A list with its strict order (R93). -/
def Targets.wellFormed : Targets → Bool
  | .list cs => 1 ≤ cs.length && cs.length ≤ 16 && decide (cs.Pairwise (· < ·))
  | .range a b => a ≤ b
  | .members _ => true
  | .master _ => true

/-- A move record of a cue (R92). -/
def MoveRecord.wellFormed (r : MoveRecord) : Bool :=
  r.targets.wellFormed && r.delay ≤ Config.maxTime && r.time ≤ Config.maxTime

/-- The command can be given. -/
def Instr.wellFormed : Instr → Bool
  | .powerOn _ _ => true
  | .lineError => true
  | .receiveGap => true
  | .frameLenInvalid b => 250 < b.toNat
  | .frameReceived _ => true
  | .unknown _ code => !Config.requestCodes.contains code
  | .replyFrame => true
  | .reportFrame => true
  | .frameSent => true
  | .ident _ _ => true
  | .heartbeat _ _ => true
  | .status _ _ => true
  | .resetPlayback _ f => f = .own || f = .wrongLength
  | .resetSurface _ f => f = .own || f = .wrongLength
  | .resetLinks _ f => f = .own || f = .wrongLength
  | .resetAll _ f =>
    match f with
    | .badScope v => fits 1 v && (v = 0 || 4 < v)
    | _ => true
  | .resetTakesEffect => true
  | .reportMode _ f => f.check (checkWhole fun x => x.enables.length = 9 && x.enables.all (fits 1) && fits 1 x.mode)
  | .watchSet _ f => f.check (checkWhole fun x => fits 1 x.entry && fits 1 x.inUse && fits 1 x.value && fits 1 x.mask)
  | .heartbeatConfig _ f => f.check (checkWhole fun x => fits 1 x.enable && fits 2 x.upper && fits 2 x.lower)
  | .portClockStep t => isShowTime t
  | .heartbeatLate => true
  | .cueLoad _ f => f.check CueLoadFields.wellFormed
  | .cueDelete _ f => f.check (fits 3)
  | .cueRead _ f => f.check fun x => fits 3 x.cue && fits 1 x.mode && fits 1 x.index
  | .listClear _ _ => true
  | .listInfo _ _ => true
  | .listEdited _ count => count ≤ Config.maxCues
  | .go _ f => f.check fun x => fitsOpt 3 x.cue && fitsOpt 2 x.generation
  | .back _ _ => true
  | .goto _ f => f.check fun x => fits 3 x.cue && fits 1 x.fire && x.fire ≠ 1
  | .gotoFire _ f => f.check (fits 3)
  | .hold _ _ => true
  | .resume _ _ => true
  | .stop _ _ => true
  | .scheduleAdd _ f => f.check fun x => fits 4 x.time && fits 3 x.cue
  | .scheduleCancel _ f => f.check (fitsOpt 3)
  | .playbackRead _ _ => true
  | .playbackConfig _ f => f.check (fitsOpt 3)
  | .sequencerClockStep t => isShowTime t
  | .followExpiry t => isShowTime t
  | .scheduleTriggerDue t => isShowTime t
  | .showTimeSet old new => isShowTime old && isShowTime new
  | .effectiveActionAtSequencer _ => true
  | .cueFire n rs b =>
    isCue n && rs.length ≤ Config.maxCueRecords && rs.all MoveRecord.wellFormed && checkWhole (· ≤ Config.maxTime) b
  | .moveEngineClockStep t => isShowTime t
  | .moveStart id => fits 2 id
  | .moveCompleted id => fits 2 id
  | .channelYielded _ => true
  | .channelMadeSafe _ => true
  | .cancellation => true
  | .playbackHeld => true
  | .playbackResumed => true
  | .chanSet _ f => f.check fun x => fitsList x.channels && fits 2 x.level && fits 3 x.time && fits 1 x.curve
  | .chanConfig _ f =>
    f.check fun x =>
      fits 1 x.first && fits 1 x.count && checkWhole (fitsSigned 2) x.staticTrim && fitsOpt 1 x.releaseMode &&
        fitsOpt 1 x.touchPolicy && checkWhole (fitsOpt 2) x.safeLevel && fitsOpt 1 x.safed
  | .chanRead _ f => f.check fun x => fits 1 x.first && fits 1 x.count
  | .muteSet _ f => f.check fun x => fitsList x.list && fits 1 x.value
  | .chanRelease _ f => f.check fitsList
  | .levelConfig _ f => f.check (checkWhole fun x => fits 2 x.glide && fits 2 x.ramp && fits 2 x.slew)
  | .channelClockStep _ t => isShowTime t
  | .glideEnd _ => true
  | .safeGlideEnd _ => true
  | .settling _ => true
  | .automationPositionChanged _ _ => true
  | .currentTrimChanged _ _ => true
  | .touchEvent _ _ _ => true
  | .operatorPosition _ _ _ => true
  | .releaseEvent _ _ _ => true
  | .effectiveActionChanged _ _ => true
  | .muteKeyEvent _ => true
  | .muteAction _ _ => true
  | .masterChanged _ _ => true
  | .masterMuteChanged _ _ => true
  | .joinedGroup _ _ => true
  | .leftGroup _ _ => true
  | .stripAssigned _ _ => true
  | .stripReleased _ _ => true
  | .learn _ _ => true
  | .rotation => true
  | .trimSet _ f => f.check fun x => fits 1 x.first && fits 1 x.trims.length && x.trims.all (fitsSigned 2)
  | .trimRotate _ _ => true
  | .trimClear _ f => f.check (fitsOpt 1)
  | .trimRead _ f => f.check fun x => fits 1 x.first && fits 1 x.count
  | .groupMembers _ f => f.check fun x => fits 1 x.group && fitsList x.channels
  | .groupSet _ f => f.check fun x => fits 1 x.group && fits 2 x.position && fits 3 x.time && fits 1 x.curve
  | .groupMute _ f => f.check fun x => fitsList x.list && fits 1 x.value
  | .groupRead _ f =>
    f.check fun x =>
      match x with
      | .one g => fits 1 g
      | .range first count => fits 1 first && fits 1 count
  | .masterPositionChanged _ _ => true
  | .masterMuteAction _ _ => true
  | .scan _ _ _ => true
  | .impliedRelease _ _ _ => true
  | .seekArrived _ _ _ => true
  | .seekTimeout _ _ _ => true
  | .calibrationPhaseEnd _ _ _ => true
  | .calibrationTimeout _ _ _ => true
  | .motorTarget _ _ _ => true
  | .lampEvent _ _ _ => true
  | .muteKeyPress _ => true
  | .bankKeyPress _ => true
  | .bankMap _ f =>
    f.check fun x => fits 1 x.bank && checkWhole (fun w => fits 1 w.1 && fits 1 w.2.length && w.2.all (fitsOpt 1)) x.write
  | .bankSelect _ f => f.check (fits 1)
  | .stripCalibrate _ f => f.check fitsList
  | .surfaceConfig _ f =>
    f.check fun x =>
      match x with
      | .read => true
      | .settings y =>
        fits 1 y.start && fits 1 y.stop && fits 1 y.touch && fits 1 y.release && fits 1 y.debounce &&
          fits 1 y.hysteresis && fits 1 y.drift
      | .fineOffset n y => fits 1 n && fitsSigned 1 y
  | .stripRead _ f => f.check fun x => fits 1 x.first && fits 1 x.count
  | .linkClockStep _ t => isShowTime t
  | .helloUnanswered _ => true
  | .ready _ => true
  | .keepalive _ => true
  | .keepaliveAcknowledgement _ => true
  | .keepaliveLost _ => true
  | .linkMessageDiscard _ _ => true
  | .linkMessageGap _ => true
  | .outputGainChanged _ _ _ _ => true
  | .channelSettled _ _ _ => true
  | .updateFrame _ _ => true
  | .sourceTripped _ => true
  | .sourceCleared _ => true
  | .slotMap _ f =>
    f.check fun x =>
      fits 1 x.link && fits 1 x.first && fits 1 x.count &&
        checkWhole (fun es => es.length = x.count && es.all (fitsOpt 1)) x.entries
  | .linkConfig _ f =>
    f.check fun x =>
      fits 1 x.link &&
        checkWhole (fun y => fits 1 y.enable && fits 1 y.high && fits 1 y.low && fits 1 y.step && fitsOpt 1 y.mirror) x.settings
  | .linkRead _ f => f.check (fits 1)
  | .clockStep => true
  | .referencePulse _ => true
  | .silenceLimit => true
  | .holdoverExpiry => true
  | .clockConfig _ f => f.check (checkWhole fun x => fits 1 x.source && fits 1 x.rate)
  | .clockSet _ f => f.check (fits 4)
  | .clockRead _ _ => true
  | .occurrence _ => true
  | .goodEvent _ => true
  | .faultConfig _ f =>
    f.check fun x =>
      fits 1 x.source && checkWhole (fun y => fits 1 y.action && fits 1 y.trip && fits 1 y.mask) x.settings
  | .faultClear _ f => f.check (fits 1)
  | .faultTest _ f => f.check (fits 1)
  | .faultRead _ _ => true
  | .byteReceived _ => true

end Sys2Proof
end

