-- ==== Sys2Proof/Certificates/Slice0/Obligations.lean ====
section
/-! DEFINITION. The statements for the provers. -/

open Sys2Proof Sys2Proof.Machine

/-- For a position from 1 to 1023 the segment is the one whose lower breakpoint is the largest at or below it, the last one for
1023; law(P) is the lower gain plus the quotient of R2 rounded to the nearest integer, a half up, so each breakpoint has its
own gain, and a higher position never has a lower one. G of a channel is OFF with CLIP clear when P_eff is 0, else OFF with
CLIP clear when a group of it has master 0, else by the raw sum of law(P_eff), static trim and the law of each group's
master: below -900 OFF, up to +100 the sum, above +100 the value +100 with CLIP set. With at most four groups and a static
trim in its range the raw sum lies from -4700 to +600. -/
def Obligations.ChannelGainFollowsTheLaw : Prop :=
  (∀ pa ga pb gb : Int, (pa, ga, pb, gb) ∈
      [(1, -900, 64, -600), (64, -600, 256, -300), (256, -300, 512, -100), (512, -100, 768, 0), (768, 0, 1023, 100)] →
    ∀ p : Position, pa ≤ p.val → (p.val < pb ∨ p.val = 1023 ∧ pb = 1023) →
      ∃ q : Int, law p = ga + q ∧
        2 * (pb - pa) * q ≤ 2 * ((gb - ga) * (p.val - pa)) + (pb - pa) ∧
        2 * ((gb - ga) * (p.val - pa)) + (pb - pa) < 2 * (pb - pa) * (q + 1)) ∧
  (∀ e ∈ [(1, -900), (64, -600), (256, -300), (512, -100), (768, 0), (1023, 100)], law (e.1 : Position) = e.2) ∧
  (∀ p q : Position, 1 ≤ p.val → p ≤ q → law p ≤ law q) ∧
  ∀ (s : State) (c : ChanNo),
    let r := s.channel c
    let gs := groupsOf s c
    let sum := law r.pEff + r.staticTrim + (gs.map fun g => law (s.group g).master).sum
    (r.pEff = 0 → channelGain s c = (.off, false)) ∧
    (r.pEff ≠ 0 → (∃ g, c ∈ (s.group g).members ∧ (s.group g).master = 0) → channelGain s c = (.off, false)) ∧
    (r.pEff ≠ 0 → (∀ g, c ∈ (s.group g).members → (s.group g).master ≠ 0) →
      (sum < -900 → channelGain s c = (.off, false)) ∧
      (-900 ≤ sum → sum ≤ 100 → channelGain s c = (.tenths sum, false)) ∧
      (100 < sum → channelGain s c = (.tenths 100, true)) ∧
      (gs.length ≤ 4 → -200 ≤ r.staticTrim → r.staticTrim ≤ 100 → -4700 ≤ sum ∧ sum ≤ 600)) ∧
    gs.Nodup ∧ ∀ g, g ∈ gs ↔ c ∈ (s.group g).members

/-- At a channel that is not frozen a clock step: advances a glide or safe glide by 1 ms toward the AUTO value or the safe level,
P_eff lying (g / length) of the way, ending at the length in AUTO or AT_SAFE, and works out G and CLIP again; moves M by the
ramp step (900 over the ramp time, rounded up) toward its goal; makes T OFF or G + M by R9; moves O toward T by at most the
slew limit, OFF counting as -900; and sets SETTLED to whether O equals T. A changed P_eff goes to the strip; a changed O goes
to the four links with the settled mark; a settling without one goes to them as a channel settled event; a settling offers a
LEVEL report, also where the channel was settled before and O moved (log 11). A frozen channel only takes the event. After a
thaw M goes to its goal at the next step (log 12). GLIDE_END and SAFE_GLIDE_END of a glide at its last step, and SETTLING of
a step that settles, are that whole step (the model's choice, log 4). Nothing else changes. -/
def Obligations.ChannelClockStepsRampAndSlew : Prop :=
  ∀ (c : ChanNo) (time : Nat) (s : State),
    let e : Instr := .channelClockStep c time
    let u := s.take e
    let next : Prop := e = s.nextStep (.channelClockStep c ·)
    let r := s.channel c
    let number (g : Gain) : Int := match g with | .off => -900 | .tenths x => x
    (r.frozen = true → exec e s = .next u) ∧
    (r.frozen = false → ∃ t, exec e s = .next t ∧
      let q := t.channel c
      let moved : Bool := q.output ≠ r.output
      q = { r with
        owner := q.owner, pEff := q.pEff, gain := q.gain, clip := q.clip, mute := q.mute, target := q.target,
        output := q.output, settled := q.settled } ∧
      (glideOf r.owner = none → q.owner = r.owner ∧ q.pEff = r.pEff ∧ q.gain = r.gain ∧ q.clip = r.clip) ∧
      (∀ g, r.owner = .glide g → (q.gain, q.clip) = channelGain t c ∧
        (g.length ≤ g.progress + 1 → q.owner = .auto ∧ q.pEff = r.autoValue ∧ (next → exec (.glideEnd c) s = .next t)) ∧
        (g.progress + 1 < g.length → q.owner = .glide { g with progress := g.progress + 1 } ∧
          q.pEff = between g.origin r.autoValue (g.progress + 1) g.length ∧ exec (.glideEnd c) s = .next s)) ∧
      (∀ g a, r.owner = .forced (.safeGlide g) → r.safeLevel = some a → (q.gain, q.clip) = channelGain t c ∧
        (g.length ≤ g.progress + 1 → q.owner = .forced .atSafe ∧ q.pEff = a ∧ (next → exec (.safeGlideEnd c) s = .next t)) ∧
        (g.progress + 1 < g.length → q.owner = .forced (.safeGlide { g with progress := g.progress + 1 }) ∧
          q.pEff = between g.origin a (g.progress + 1) g.length ∧ exec (.safeGlideEnd c) s = .next s)) ∧
      (∃ step : Nat, (s.levels.muteRamp = 0 → step = 900) ∧
        (0 < s.levels.muteRamp → 900 ≤ step * s.levels.muteRamp ∧ (step - 1) * s.levels.muteRamp < 900) ∧
        q.mute = if r.mute < r.muteGoal then min (r.mute + step) r.muteGoal else max (r.mute - step) r.muteGoal) ∧
      (q.target = match q.gain with
        | .off => .off
        | .tenths x => if q.mute = -900 ∨ x + q.mute < -900 then .off else .tenths (x + q.mute)) ∧
      (∀ x, q.target = .tenths x →
        ((x - number r.output).natAbs ≤ s.levels.slew → q.output = .tenths x) ∧
        (s.levels.slew < (x - number r.output).natAbs →
          q.output = .tenths (if number r.output < x then number r.output + s.levels.slew
            else number r.output - s.levels.slew))) ∧
      (q.target = .off → q.output = if r.output = .off ∨ number r.output - s.levels.slew ≤ -900 then .off
        else .tenths (number r.output - s.levels.slew)) ∧
      q.settled = decide (q.output = q.target) ∧
      t.handed = u.handed ++
        (if q.pEff = r.pEff then [] else r.strip.toList.map fun n => .motorTarget n c q.pEff) ++
        (if moved then allLinks.map fun l => .outputGainChanged l c q.output q.settled else []) ++
        (if q.settled && !r.settled && !moved then allLinks.map fun l => .channelSettled l c q.output else []) ∧
      OfferedEach (if q.settled && (moved || !r.settled) then [.level c q.output q.clip] else []) s t ∧
      (r.settled = false → r.output ≠ r.target → q.settled = true → next → exec (.settling c) s = .next t) ∧
      OnlyChannel c s t ∧ KeepsBut [.handed, .reports, .channels] s t) ∧
    (r.settled = false → r.output = r.target → ∃ t, exec (.settling c) s = .next t ∧
      t.channel c = { r with settled := true } ∧ t.handed = s.handed ++ (allLinks.map fun l => .channelSettled l c r.output) ∧
      OfferedEach [.level c r.output r.clip] s t ∧ OnlyChannel c s t ∧ KeepsBut [.handed, .reports, .channels] s t)

/-- A mute key event toggles the own mute; a mute action that changes it sets it, one that does not only takes its event; a
master mute changed event works the goal of M out again, and joining or leaving a group the goal and G; a master changed
event G alone, and nothing while frozen. The goal is -900 under the effective mute, else 0; M jumps to a new goal only at
ramp time 0; T and SETTLED follow, a settling is handed on, and a change of the effective mute goes to the strip's lamp, also
while frozen; a change is one from the effective mute last shown, which the model keeps in the channel (log 13). MUTE_SET of
1 to 16 different channels leaves each as the mute action on it would, in list order, and is answered OK; a channel above 95,
a repeated one, a list of none or more than 16 or a value above 1 is refused with RANGE. -/
def Obligations.MuteAndGroupEventsReachTheLevel : Prop :=
  (∀ (c : ChanNo) (g : GroupNo) (s : State),
    let r := s.channel c
    (∃ t, exec (.muteKeyEvent c) s = .next t ∧ TakesMute c { r with ownMute := !r.ownMute } false (s.take (.muteKeyEvent c)) t) ∧
    (exec (.muteAction c r.ownMute) s = .next (s.take (.muteAction c r.ownMute))) ∧
    (∃ t, exec (.muteAction c !r.ownMute) s = .next t ∧
      TakesMute c { r with ownMute := !r.ownMute } false (s.take (.muteAction c !r.ownMute)) t) ∧
    (∃ t, exec (.masterMuteChanged c g) s = .next t ∧ TakesMute c r false (s.take (.masterMuteChanged c g)) t) ∧
    (∃ t, exec (.joinedGroup c g) s = .next t ∧ TakesMute c r true (s.take (.joinedGroup c g)) t) ∧
    (∃ t, exec (.leftGroup c g) s = .next t ∧ TakesMute c r true (s.take (.leftGroup c g)) t) ∧
    (r.frozen = true → exec (.masterChanged c g) s = .next (s.take (.masterChanged c g))) ∧
    (r.frozen = false → ∃ t, exec (.masterChanged c g) s = .next t ∧
      t.channel c = { r with
        gain := (t.channel c).gain, clip := (t.channel c).clip, target := (t.channel c).target,
        settled := (t.channel c).settled } ∧
      LevelsWorkedOut c t ∧ t.handed = (s.take (.masterChanged c g)).handed ++ settlingEvents c s t ∧
      OfferedEach (settlingReports c s t) s t ∧ OnlyChannel c s t ∧ KeepsBut [.handed, .reports, .channels] s t)) ∧
  ∀ (tag : Byte) (s : State), PortFree s →
    (∀ (cs : List ChanNo) (on : Bool), cs ≠ [] → cs.length ≤ 16 → cs.Nodup →
      let c : Instr := .muteSet tag (.fields { list := cs.map Fin.val, value := if on then 1 else 0 })
      ∃ t, exec c s = .next t ∧ Answered c tag 0x33 .ok [] s t ∧
        (∀ x ∈ cs, ∃ v, exec (.muteAction x on) s = .next v ∧ t.channel x = v.channel x) ∧
        (∀ x, x ∉ cs → t.channel x = s.channel x) ∧
        (t.handed = s.handed ++ (cs.filter fun x => (s.channel x).ownMute ≠ on).flatMap fun x =>
          (if effectiveMute t x = (s.channel x).seenMute then []
            else (s.channel x).strip.toList.map fun n => .lampEvent n x (effectiveMute t x)) ++ settlingEvents x s t) ∧
        OfferedEach ((cs.filter fun x => (s.channel x).ownMute ≠ on).flatMap fun x => settlingReports x s t) s t ∧
        KeepsBut [.port, .handed, .reports, .channels] s t) ∧
    ∀ (ns : List Nat) (v : Nat), (ns = [] ∨ 16 < ns.length ∨ (∃ n ∈ ns, 95 < n) ∨ ¬ns.Nodup ∨ 1 < v) →
      let c : Instr := .muteSet tag (.fields { list := ns, value := v })
      ∃ t, exec c s = .next t ∧ Answered c tag 0x33 .range [] s t ∧ KeepsBut [.port] s t

/-- The AUTO value is 0 at P_auto 0, else P_auto plus the working trim held within 1 to 1023. An automation position changed
event writes P_auto in every state, and in AUTO P_eff becomes the AUTO value; so does a Current trim changed event that
brings another trim, while one with the same trim only takes its event. A touch puts the channel into TOUCHED with P_op and
P_eff at the position it carries, ending a glide or a freeze, and under YIELD hands a channel yielded event unless it was
TOUCHED already. An operator position moves P_op and P_eff of a TOUCHED channel and is discarded by any other. A changed
P_eff goes to the strip as a motor target and to G, T and SETTLED; a freeze that ends thaws; M and O stand. -/
def Obligations.ChannelEventsMoveTheEffectivePosition : Prop :=
  ∀ (c : ChanNo) (n : StripNo) (p : Position) (x : Trim) (s : State),
    let r := s.channel c
    let inAuto (w : Channel) : Channel := if r.owner = .auto then { w with pEff := w.autoValue } else w
    (∀ w : Channel, (w.autoValue.val : Int) =
      if w.pAuto = 0 then 0 else max 1 (min 1023 ((w.pAuto.val : Int) + w.workingTrim.val))) ∧
    (∃ t, exec (.automationPositionChanged c p) s = .next t ∧
      TakesPosition c (inAuto { r with pAuto := p }) [] (s.take (.automationPositionChanged c p)) t) ∧
    (x = r.workingTrim → exec (.currentTrimChanged c x) s = .next (s.take (.currentTrimChanged c x))) ∧
    (x ≠ r.workingTrim → ∃ t, exec (.currentTrimChanged c x) s = .next t ∧
      TakesPosition c (inAuto { r with workingTrim := x }) [] (s.take (.currentTrimChanged c x)) t) ∧
    (∃ t, exec (.touchEvent c n p) s = .next t ∧
      TakesPosition c { r with owner := .touched, pOp := p, pEff := p }
        (if r.owner ≠ .touched ∧ r.touchPolicy = .yield then [.channelYielded c] else []) (s.take (.touchEvent c n p)) t) ∧
    (r.owner = .touched → ∃ t, exec (.operatorPosition c n p) s = .next t ∧
      TakesPosition c { r with pOp := p, pEff := p } [] (s.take (.operatorPosition c n p)) t) ∧
    (r.owner ≠ .touched → exec (.operatorPosition c n p) s = .next (s.take (.operatorPosition c n p)))

/-- A release of a TOUCHED channel keeps P_op as the release position and goes, under FREEZE or SAFE, into FORCED; else under
RETURN or the reset mark it glides, under LEARN with P_auto not 0 it learns P_op minus P_auto within -255 to 255, hands it
and enters AUTO, and under LATCH or LEARN at P_auto 0 it is MANUAL at the release position. At another channel it is
discarded. An effective action changed event that brings another action is applied: TOUCHED is passed over; FREEZE, or SAFE
without safe level, freezes; SAFE with one glides to it, but a channel FORCED and not FROZEN stands under SAFE; NONE or HOLD
makes a FORCED channel glide. CHAN_RELEASE glides every listed MANUAL channel and counts them; a channel above 95 or listed
twice gives RANGE, a list of none or more than 16 BAD_LENGTH. A glide starts at P_eff with the glide time, or lands at once
when that is 0. -/
def Obligations.ReleasesAndForcingChangeTheOwner : Prop :=
  ∀ s : State,
    let time := s.levels.glideTime
    let glides (w : Channel) : Channel :=
      if time = 0 then { w with owner := .auto, pEff := w.autoValue } else { w with owner := .glide ⟨w.pEff, 0, time⟩ }
    let safe (w : Channel) (p : Position) : Channel :=
      if time = 0 then { w with owner := .forced .atSafe, pEff := p }
      else { w with owner := .forced (.safeGlide ⟨w.pEff, 0, time⟩) }
    let frozen (w : Channel) : Channel := { w with owner := .forced .frozen }
    let forced (a : Action) (w : Channel) : Channel := match a, w.safeLevel with
      | .safe, some p => safe w p
      | _, _ => frozen w
    (∀ (c : ChanNo) (n : StripNo) (reset : Bool),
      let e : Instr := .releaseEvent c n reset
      let r := s.channel c
      let w := { r with releasePos := r.pOp }
      let d : Int := (r.pOp.val : Int) - r.pAuto.val
      (r.owner ≠ .touched → exec e s = .next (s.take e)) ∧
      (r.owner = .touched → ∃ t, exec e s = .next t ∧
        (r.applied = .freeze ∨ r.applied = .safe → TakesPosition c (forced r.applied w) [] (s.take e) t) ∧
        (r.applied = .none ∨ r.applied = .hold →
          (reset = true ∨ r.releaseMode = .ret → TakesPosition c (glides w) [] (s.take e) t) ∧
          (reset = false → r.releaseMode = .latch ∨ (r.releaseMode = .learn ∧ r.pAuto = 0) →
            TakesPosition c { w with owner := .manual, pEff := r.pOp } [] (s.take e) t) ∧
          (reset = false → r.releaseMode = .learn → r.pAuto ≠ 0 → ∃ x : Trim,
            x.val = max (-255) (min 255 d) ∧
            TakesPosition c { w with workingTrim := x, owner := .auto, pEff := { w with workingTrim := x }.autoValue }
              [.learn c x] (s.take e) t)))) ∧
    (∀ (c : ChanNo) (a : Action),
      let e : Instr := .effectiveActionChanged c a
      let r := s.channel c
      let w := { r with applied := a }
      (a = r.applied → exec e s = .next (s.take e)) ∧
      (a ≠ r.applied → ∃ t, exec e s = .next t ∧
        (r.owner = .touched → TakesPosition c w [] (s.take e) t) ∧
        (∀ m, r.owner = .forced m →
          (a = .none ∨ a = .hold → TakesPosition c (glides w) [] (s.take e) t) ∧
          (a = .freeze → TakesPosition c (frozen w) [] (s.take e) t) ∧
          (a = .safe → m = .frozen → TakesPosition c (forced .safe w) [] (s.take e) t) ∧
          (a = .safe → m ≠ .frozen → TakesPosition c w [] (s.take e) t)) ∧
        (r.owner = .auto ∨ r.owner = .manual ∨ (∃ g, r.owner = .glide g) →
          (a = .none ∨ a = .hold → TakesPosition c w [] (s.take e) t) ∧
          (a = .freeze ∨ a = .safe → TakesPosition c (forced a w) [] (s.take e) t)))) ∧
    (∀ (tag : Byte) (cs : List ChanNo), PortFree s → cs ≠ [] → cs.length ≤ 16 → cs.Nodup →
      let e : Instr := .chanRelease tag (.fields (cs.map Fin.val))
      let ms := cs.filter fun x => (s.channel x).owner = .manual
      let w (x : ChanNo) : Channel := glides (s.channel x)
      ∃ t, exec e s = .next t ∧ Answered e tag 0x34 .ok (bytesOf 1 ms.length) s t ∧
        (∀ x, x ∉ ms → t.channel x = s.channel x) ∧
        (∀ x ∈ ms,
          t.channel x = { w x with
            gain := (t.channel x).gain, clip := (t.channel x).clip, target := (t.channel x).target,
            settled := (t.channel x).settled } ∧
          ((w x).pEff = (s.channel x).pEff → t.channel x = w x) ∧ ((w x).pEff ≠ (s.channel x).pEff → LevelsWorkedOut x t)) ∧
        (t.handed = s.handed ++ ms.flatMap fun x =>
          (if (w x).pEff = (s.channel x).pEff then [] else (s.channel x).strip.toList.map fun n => .motorTarget n x (w x).pEff) ++
            settlingEvents x s t) ∧
        OfferedEach (ms.flatMap fun x => settlingReports x s t) s t ∧
        KeepsBut [.port, .handed, .reports, .channels] s t) ∧
    (∀ (tag : Byte) (ns : List Nat), PortFree s → ns = [] ∨ 16 < ns.length →
      ∃ t, exec (.chanRelease tag (.fields ns)) s = .next t ∧ KeepsBut [.port] s t ∧
        Answered (.chanRelease tag (.fields ns)) tag 0x34 .badLength [] s t) ∧
    ∀ (tag : Byte) (ns : List Nat), PortFree s → ns ≠ [] → ns.length ≤ 16 → ((∃ n ∈ ns, 95 < n) ∨ ¬ns.Nodup) →
      ∃ t, exec (.chanRelease tag (.fields ns)) s = .next t ∧ KeepsBut [.port] s t ∧
        Answered (.chanRelease tag (.fields ns)) tag 0x34 .range [] s t

/-- CHAN_CONFIG with fields in their ranges writes each field it carries into each channel of its range. A new safe level under
SAFE sends a FROZEN or AT_SAFE channel on a safe glide and freezes a SAFE_GLIDE or AT_SAFE channel at NONE; a new static
trim, a moved P_eff or a thaw works out G, T and SETTLED, else nothing but the fields changes; SAFED set anew hands channel
made safe. The action a safe level acts under is the one last taken at the channel (the model's choice, log 41). LEVEL_CONFIG
writes its three settings and carries them in its reply; a ramp time newly 0 takes M to its goal, with T and SETTLED,
wherever the output is not frozen. Values out of range, a count of 0 or above 16 among them, are refused with RANGE. A strip
assigned event hands the strip the channel's P_eff and effective mute; a strip released event frees the strip it names. A
static trim and a safe level in one request act one after the other, each with its own settling: the static trim first, as
the model chooses (DESIGN CHOICE, log 38). -/
def Obligations.ChannelSettingsTakeEffect : Prop :=
  (∀ (tag : Byte) (first count : Nat) (trim : Option Int) (mode : Option ReleaseMode) (policy : Option TouchPolicy)
      (level : Option (Option Position)) (safed : Option Bool) (s : State),
    PortFree s → 1 ≤ count → count ≤ 16 → first + count ≤ 96 → (∀ x ∈ trim, -200 ≤ x ∧ x ≤ 100) →
    let e : Instr := .chanConfig tag (.fields
      { first := first, count := count, staticTrim := trim, releaseMode := mode.map releaseModeCode,
        touchPolicy := policy.map touchPolicyCode, safeLevel := level.map (Option.map Fin.val),
        safed := safed.map fun b => if b then 1 else 0 })
    let xs := allChannels.filter fun x => first ≤ x.val ∧ x.val < first + count
    let time := s.levels.glideTime
    let written (r : Channel) : Channel :=
      { r with
        staticTrim := trim.getD r.staticTrim, releaseMode := mode.getD r.releaseMode, touchPolicy := policy.getD r.touchPolicy,
        safeLevel := level.getD r.safeLevel, safed := safed.getD r.safed }
    let glides (r : Channel) (p : Position) : Channel :=
      if time = 0 then { written r with owner := .forced .atSafe, pEff := p }
      else { written r with owner := .forced (.safeGlide ⟨r.pEff, 0, time⟩) }
    let w (r : Channel) : Channel :=
      if r.applied = .safe ∧ level.getD r.safeLevel ≠ r.safeLevel then
        match r.owner, level.getD r.safeLevel with
        | .forced .frozen, some p => glides r p
        | .forced .atSafe, some p => glides r p
        | .forced (.safeGlide _), none => { written r with owner := .forced .frozen }
        | .forced .atSafe, none => { written r with owner := .forced .frozen }
        | _, _ => written r
      else written r
    let trimmed (x : ChanNo) : Gain × Bool :=
      channelGain (s.setChannel x { s.channel x with staticTrim := trim.getD (s.channel x).staticTrim }) x
    let afterTrim (x : ChanNo) : Bool :=
      if (s.channel x).frozen = false ∧ trim.getD (s.channel x).staticTrim ≠ (s.channel x).staticTrim then
        decide ((s.channel x).output = targetGain (trimmed x).1 (s.channel x).mute)
      else (s.channel x).settled
    let settlesOnTrim (x : ChanNo) : Bool := afterTrim x && !(s.channel x).settled
    let settled (x : ChanNo) : List Instr := allLinks.map fun l => .channelSettled l x (s.channel x).output
    ∃ t, exec e s = .next t ∧ Answered e tag 0x31 .ok [] s t ∧ (∀ x, x ∉ xs → t.channel x = s.channel x) ∧
      (∀ x ∈ xs,
        let r := s.channel x
        let q := t.channel x
        let thawed : Prop := r.frozen = true ∧ (w r).frozen = false
        let worked : Prop := thawed ∨ (w r).pEff ≠ r.pEff ∨ (r.frozen = false ∧ (w r).staticTrim ≠ r.staticTrim)
        q = { w r with gain := q.gain, clip := q.clip, muteGoal := q.muteGoal, target := q.target, settled := q.settled } ∧
        (worked → LevelsWorkedOut x t) ∧ (¬worked → q = w r) ∧ (¬thawed → q.muteGoal = r.muteGoal) ∧
        (thawed → q.muteGoal = muteGoalOf (effectiveMute t x))) ∧
      (t.handed = s.handed ++ xs.flatMap fun x =>
        (if settlesOnTrim x then settled x else []) ++
          (if (w (s.channel x)).pEff = (s.channel x).pEff then []
            else (s.channel x).strip.toList.map fun n => .motorTarget n x (w (s.channel x)).pEff) ++
          (if (t.channel x).settled = true ∧ afterTrim x = false then settled x else []) ++
          (if safed = some true ∧ (s.channel x).safed = false then [.channelMadeSafe x] else [])) ∧
      OfferedEach (xs.flatMap fun x =>
        (if settlesOnTrim x then [.level x (s.channel x).output (trimmed x).2] else []) ++
          (if (t.channel x).settled = true ∧ afterTrim x = false
            then [.level x (t.channel x).output (t.channel x).clip] else [])) s t ∧
      KeepsBut [.port, .handed, .reports, .channels] s t) ∧
  (∀ (tag : Byte) (f : ChanConfigFields) (s : State), PortFree s →
    (f.count = 0 ∨ 16 < f.count ∨ 96 < f.first + f.count ∨ (∃ x ∈ f.staticTrim, x < -200 ∨ 100 < x) ∨ (∃ m ∈ f.releaseMode, 2 < m) ∨
      (∃ m ∈ f.touchPolicy, 1 < m) ∨ (∃ l ∈ f.safeLevel, ∃ p ∈ l, 1023 < p) ∨ (∃ b ∈ f.safed, 1 < b)) →
    ∃ t, exec (.chanConfig tag (.fields f)) s = .next t ∧ Answered (.chanConfig tag (.fields f)) tag 0x31 .range [] s t ∧
      KeepsBut [.port] s t) ∧
  (∀ (tag : Byte) (f : LevelFields) (s : State), PortFree s →
    let e : Instr := .levelConfig tag (.fields (some f))
    ∃ t, exec e s = .next t ∧
      (10000 < f.glide ∨ 500 < f.ramp ∨ f.slew = 0 ∨ 900 < f.slew →
        Answered e tag 0x35 .range [] s t ∧ KeepsBut [.port] s t) ∧
      (f.glide ≤ 10000 → f.ramp ≤ 500 → 1 ≤ f.slew → f.slew ≤ 900 →
        Answered e tag 0x35 .ok (bytesOf 2 f.glide ++ bytesOf 2 f.ramp ++ bytesOf 2 f.slew) s t ∧
        t.levels = { glideTime := f.glide, muteRamp := f.ramp, slew := f.slew } ∧
        KeepsBut [.port, .handed, .reports, .levels, .channels] s t ∧
        (f.ramp ≠ 0 ∨ s.levels.muteRamp = 0 → t.channels = s.channels ∧ t.handed = s.handed ∧ OfferedEach [] s t) ∧
        (f.ramp = 0 → s.levels.muteRamp ≠ 0 →
          (∀ x, let r := s.channel x
            t.channel x = if r.frozen ∨ r.mute = r.muteGoal then r
              else { r with
                mute := r.muteGoal
                target := targetGain r.gain r.muteGoal
                settled := decide (r.output = targetGain r.gain r.muteGoal) }) ∧
          (t.handed = s.handed ++ allChannels.flatMap fun x => settlingEvents x s t) ∧
          OfferedEach (allChannels.flatMap fun x => settlingReports x s t) s t))) ∧
  ∀ (c : ChanNo) (n : StripNo) (s : State),
    let r := s.channel c
    exec (.stripAssigned c n) s = .next
      (((s.take (.stripAssigned c n)).setChannel c { r with strip := some n, seenMute := effectiveMute s c }).hand
        [.motorTarget n c r.pEff, .lampEvent n c (effectiveMute s c)]) ∧
    exec (.stripReleased c n) s = .next
      ((s.take (.stripReleased c n)).setChannel c { r with strip := if r.strip = some n then none else r.strip })

/-- Learning writes the trim into Current and Next of its channel. Rotation makes Next Current and Spare Next, and the table that
was Current, cleared, Spare; TRIM_ROTATE does the same and carries the tables now playing Current, Next and Spare. TRIM_SET
writes one trim into Current and Next of each channel of its range; TRIM_CLEAR writes 0 into all three tables, of one channel
or of all; both carry the number of channels whose Current trim changed. Every other trim and every role stays. One Current
trim changed event, with the new value, goes to each channel whose Current trim changed, in ascending order. A trim beyond
255 steps either way, or a channel above 95, is refused with RANGE and changes nothing. -/
def Obligations.TrimOperationsWriteTheTables : Prop :=
  ∀ s : State,
    let now (m : TrimMemory) (d : ChanNo) : Trim := (m.table m.current)[d]
    let nextOf (m : TrimMemory) (d : ChanNo) : Trim := (m.table m.next)[d]
    let spareOf (m : TrimMemory) (d : ChanNo) : Trim := (m.table m.spare)[d]
    let changed (t : State) : List ChanNo := allChannels.filter fun d => now t.trims d ≠ now s.trims d
    let told (t : State) : List Instr := (changed t).map fun d => .currentTrimChanged d (now t.trims d)
    let rotated (t : State) : Prop :=
      t.trims.current = s.trims.next ∧ t.trims.next = s.trims.spare ∧ t.trims.spare = s.trims.current ∧
        ∀ d, now t.trims d = nextOf s.trims d ∧ nextOf t.trims d = spareOf s.trims d ∧ (spareOf t.trims d).val = 0
    (∀ (c : ChanNo) (x : Trim), ∃ t, exec (.learn c x) s = .next t ∧ KeepsBut [.handed, .trims] s t ∧
      t.trims.current = s.trims.current ∧ t.handed = (s.take (.learn c x)).handed ++ told t ∧
      ∀ d, spareOf t.trims d = spareOf s.trims d ∧ now t.trims d = (if d = c then x else now s.trims d) ∧
        nextOf t.trims d = if d = c then x else nextOf s.trims d) ∧
    (∃ t, exec .rotation s = .next t ∧ rotated t ∧ t.handed = (s.take .rotation).handed ++ told t ∧
      KeepsBut [.handed, .trims] s t) ∧
    ∀ tag : Byte, PortFree s →
      (∃ t, exec (.trimRotate tag (.fields ())) s = .next t ∧ rotated t ∧ t.handed = s.handed ++ told t ∧
        Answered (.trimRotate tag (.fields ())) tag 0x39 .ok
          ((([t.trims.current, t.trims.next, t.trims.spare] : List TrimTable)).map fun n => match n with
            | .a => 0
            | .b => 1
            | .c => 2) s t ∧ KeepsBut [.port, .handed, .trims] s t) ∧
      (∀ (first : Nat) (xs : List Trim), xs ≠ [] → xs.length ≤ 16 → first + xs.length ≤ 96 →
        let e : Instr := .trimSet tag (.fields { first := first, trims := xs.map Subtype.val })
        ∃ t, exec e s = .next t ∧ Answered e tag 0x38 .ok (bytesOf 1 (changed t).length) s t ∧
          t.handed = s.handed ++ told t ∧ t.trims.current = s.trims.current ∧ KeepsBut [.port, .handed, .trims] s t ∧
          ∀ d, spareOf t.trims d = spareOf s.trims d ∧
            (first ≤ d.val → ∀ x, xs[d.val - first]? = some x → now t.trims d = x ∧ nextOf t.trims d = x) ∧
            (d.val < first ∨ first + xs.length ≤ d.val →
              now t.trims d = now s.trims d ∧ nextOf t.trims d = nextOf s.trims d)) ∧
      (∀ n : Option ChanNo,
        let e : Instr := .trimClear tag (.fields (n.map Fin.val))
        ∃ t, exec e s = .next t ∧ Answered e tag 0x3A .ok (bytesOf 1 (changed t).length) s t ∧
          t.handed = s.handed ++ told t ∧ t.trims.current = s.trims.current ∧ KeepsBut [.port, .handed, .trims] s t ∧
          ∀ d, ∀ table : TrimTable,
            (t.trims.table table)[d] = if n = none ∨ n = some d then Trim.zero else (s.trims.table table)[d]) ∧
      (∀ f : TrimSetFields,
        let e : Instr := .trimSet tag (.fields f)
        (95 < f.first ∨ 96 < f.first + f.trims.length ∨ ∃ x ∈ f.trims, x < -255 ∨ 255 < x) →
        ∃ t, exec e s = .next t ∧ Answered e tag 0x38 .range [] s t ∧ KeepsBut [.port] s t) ∧
      ∀ n : Nat, 95 < n → ∃ t, exec (.trimClear tag (.fields (some n))) s = .next t ∧
        Answered (.trimClear tag (.fields (some n))) tag 0x3A .range [] s t ∧ KeepsBut [.port] s t

/-- GROUP_MEMBERS with different channels from 0 to 95, none of them in four other groups, makes them the member set, kept in
ascending order, hands joined group to those that join and left group to those that leave, and carries both counts; a listed
channel in four other groups gives CONFLICT, a channel above 95, one listed twice or a group above 15 RANGE, and nothing
changes. A master position changed event writes the master and hands master changed to every member when it differs; a master
mute action does so with the mute and master mute changed; with the value held they only take their event. GROUP_MUTE does it
for each of 1 to 16 different groups in list order and carries how many changed; a list of none or more than 16, a group
above 15 or named twice, or a mute value above 1 gives RANGE. -/
def Obligations.GroupsTakeMembersMutesAndMasters : Prop :=
  ∀ s : State,
    (∀ (g : GroupNo) (p : Position),
      let e : Instr := .masterPositionChanged g p
      let r := s.group g
      (p = r.master → exec e s = .next (s.take e)) ∧
      (p ≠ r.master → exec e s = .next
        (((s.take e).setGroup g { r with master := p }).hand (r.members.map fun c => .masterChanged c g)))) ∧
    (∀ (g : GroupNo) (on : Bool),
      let e : Instr := .masterMuteAction g on
      let r := s.group g
      (on = r.muted → exec e s = .next (s.take e)) ∧
      (on ≠ r.muted → exec e s = .next
        (((s.take e).setGroup g { r with muted := on }).hand (r.members.map fun c => .masterMuteChanged c g)))) ∧
    ∀ tag : Byte, PortFree s →
      (∀ (gs : List GroupNo) (on : Bool), gs ≠ [] → gs.length ≤ 16 → gs.Nodup →
        let e : Instr := .groupMute tag (.fields { list := gs.map Fin.val, value := if on then 1 else 0 })
        let changed := gs.filter fun g => (s.group g).muted ≠ on
        ∃ t, exec e s = .next t ∧ Answered e tag 0x42 .ok (bytesOf 1 changed.length) s t ∧
          (t.handed = s.handed ++ changed.flatMap fun g => (s.group g).members.map fun c => .masterMuteChanged c g) ∧
          (∀ g, t.group g = if g ∈ gs then { s.group g with muted := on } else s.group g) ∧
          KeepsBut [.port, .handed, .groups] s t) ∧
      (∀ (g : GroupNo) (cs : List ChanNo), cs.Nodup →
        let e : Instr := .groupMembers tag (.fields { group := g.val, channels := cs.map Fin.val })
        let old := (s.group g).members
        let others (c : ChanNo) : List GroupNo := (List.finRange 16).filter fun h => h ≠ g ∧ c ∈ (s.group h).members
        ((∃ c ∈ cs, 4 ≤ (others c).length) →
          ∃ t, exec e s = .next t ∧ Answered e tag 0x40 .conflict [] s t ∧ KeepsBut [.port] s t) ∧
        ((∀ c ∈ cs, (others c).length < 4) →
          ∃ t, exec e s = .next t ∧ (t.group g).members = (allChannels.filter fun c => c ∈ cs) ∧
            (t.group g).master = (s.group g).master ∧ (t.group g).muted = (s.group g).muted ∧
            (∀ h, h ≠ g → t.group h = s.group h) ∧
            (∃ joined left : List ChanNo, joined = (allChannels.filter fun c => c ∈ cs ∧ c ∉ old) ∧
              left = (old.filter fun c => c ∉ cs) ∧
              t.handed = s.handed ++ joined.map (fun c => .joinedGroup c g) ++ left.map (fun c => .leftGroup c g) ∧
              Answered e tag 0x40 .ok (bytesOf 1 joined.length ++ bytesOf 1 left.length) s t) ∧
            KeepsBut [.port, .handed, .groups] s t)) ∧
      (∀ f : MembersFields, (15 < f.group ∨ (∃ n ∈ f.channels, 95 < n) ∨ ¬f.channels.Nodup) →
        ∃ t, exec (.groupMembers tag (.fields f)) s = .next t ∧
          Answered (.groupMembers tag (.fields f)) tag 0x40 .range [] s t ∧ KeepsBut [.port] s t) ∧
      ∀ f : MuteFields, (f.list = [] ∨ 16 < f.list.length ∨ (∃ n ∈ f.list, 15 < n) ∨ ¬f.list.Nodup ∨ 1 < f.value) →
        ∃ t, exec (.groupMute tag (.fields f)) s = .next t ∧
          Answered (.groupMute tag (.fields f)) tag 0x42 .range [] s t ∧ KeepsBut [.port] s t

/-- With u the whole part of e x 4096 / D and w the weight of the curve at u (LINEAR u; LATE u^2/4096; EARLY 4096 - (4096 -
u)^2/4096; SCURVE u^2 (12288 - 2u)/16777216, whole parts), u and w lie between 0 and 4096, w is 0 at u = 0 and 4096 at u =
4096 and never falls as u rises, and the position at elapsed e is the step nearest to s plus (t - s) x w / 4096, a half
rounded up for a rising and down for a falling move. It lies between s and t inclusive, and at e = D, where u and w are 4096,
it is exactly t. -/
def Obligations.MovePositionsFollowTheCurve : Prop :=
  let w (k : Curve) (u : Nat) : Nat := match k with
    | .linear => u
    | .late => u ^ 2 / 4096
    | .early => 4096 - (4096 - u) ^ 2 / 4096
    | .scurve => u ^ 2 * (12288 - 2 * u) / 16777216
  (∀ k, w k 0 = 0 ∧ w k 4096 = 4096 ∧ ∀ u v, u ≤ v → v ≤ 4096 → w k u ≤ w k v) ∧
  ∀ (m : Move) (start : Position) (e : Nat), 0 < m.duration → e ≤ m.duration →
    let u := e * 4096 / m.duration
    let p := (m.positionAt start e).val
    u ≤ 4096 ∧ w m.curve u ≤ 4096 ∧
      (start ≤ m.goal →
        start.val ≤ p ∧ p ≤ m.goal.val ∧
        2 * 4096 * (p - start.val) ≤ 2 * (m.goal.val - start.val) * w m.curve u + 4096 ∧
        2 * (m.goal.val - start.val) * w m.curve u + 4096 < 2 * 4096 * (p - start.val + 1)) ∧
      (m.goal ≤ start →
        m.goal.val ≤ p ∧ p ≤ start.val ∧
        2 * 4096 * (start.val - p) ≤ 2 * (start.val - m.goal.val) * w m.curve u + 4096 ∧
        2 * (start.val - m.goal.val) * w m.curve u + 4096 < 2 * 4096 * (start.val - p + 1)) ∧
      (e = m.duration → u = 4096 ∧ w m.curve u = 4096 ∧ m.positionAt start e = m.goal)

/-- A fire of several records is the fires of its records one after the other, and that of one record the fires of its targets in
turn, each with that target alone; the overflow event of each falls together in one, handed last, OVERFLOW where one of them
overflows. Whatever its records, a cue fire gives as many move ids as the records have targets, the counter going from 65535
to 0, and hands one OVERFLOW occurrence or one OVERFLOW good event last. Let the one record have one target, a channel or a
master, with nothing on its way to it. At a SAFED channel the move ends SAFED and nothing moves. With a delay and room in the
table the move is entered last, WAITING. Otherwise it starts: at a TOUCHED channel under YIELD it ends YIELDED; else it
begins from P_auto or the master's position, a MANUAL channel being taken back to AUTO first, with P_auto at the release
position less the working trim; the RUNNING move on the target ends TAKEN_OVER at the position it last computed;
UNMUTE_AT_START is handed; and with delay and duration 0 it snaps, with 128 moves in the table it is an overflow snap, with
duration 0 it completes, else it is entered last, RUNNING at elapsed 0. A snap hands the position where it changes and,
unless it is an overflow, MUTE_AT_END. A BACK gives delay 0 and the back time. The ends are reported in that order as the
mode offers, and nothing else changes. -/
def Obligations.CueFiresMakeMoves : Prop :=
  (∀ (n : Nat) (rs : List MoveRecord) (back : Option Nat) (s : State), s.engine.nextId < 65536 →
    ∃ t, exec (.cueFire n rs back) s = .next t ∧
      t.engine.nextId = (s.engine.nextId + (rs.map fun r => (expandTargets s r.targets).length).sum) % 65536 ∧
      (t.handed.getLast? = some (.occurrence .overflow) ∨ t.handed.getLast? = some (.goodEvent .overflow)) ∧
      KeepsBut [.handed, .reports, .engine, .channels, .groups] s t) ∧
  (∀ (n : Nat) (rs ts : List MoveRecord) (back : Option Nat) (s : State), (∀ xs, .cueFire n xs back ∉ s.handed) →
    ∃ (a b : State) (es fs : List Instr) (x y : Instr),
      exec (.cueFire n rs back) s = .next a ∧ a.handed = es ++ [x] ∧
      exec (.cueFire n ts back) { a with handed := es } = .next b ∧ b.handed = fs ++ [y] ∧
      exec (.cueFire n (rs ++ ts) back) s = .next
        { b with handed := fs ++ [if x = .occurrence .overflow ∨ y = .occurrence .overflow then .occurrence .overflow
            else .goodEvent .overflow] }) ∧
  (∀ (n : Nat) (r : MoveRecord) (back : Option Nat) (s : State), (∀ xs, .cueFire n xs back ∉ s.handed) →
    exec (.cueFire n [r] back) s =
      exec (.cueFire n ((expandTargets s r.targets).map fun x => { r with targets := match x with
        | .channel c => .list [c]
        | .master g => .master g }) back) s) ∧
  ∀ (n : Nat) (r : MoveRecord) (back : Option Nat) (x : Target) (s : State), expandTargets s r.targets = [x] →
    let u := s.take (.cueFire n [r] back)
    TargetQuiet x u → (∀ m ∈ s.engine.moves, m.phase ≠ .waiting 0) →
    let safed : Prop := ∃ c, x = .channel c ∧ (s.channel c).safed = true
    let stands := match x with
      | .channel c => (s.channel c).pAuto
      | .master g => (s.group g).master
    let p := startPosition s x
    let delay := if back = none then r.delay else 0
    let duration := back.getD r.time
    let made (ph : Phase) : Move :=
      { id := s.engine.nextId, cue := some n, target := x, phase := ph, duration := duration, goal := r.level,
        curve := r.curve, mute := r.mute }
    let full : Prop := ¬(delay = 0 ∧ duration = 0) ∧ 128 ≤ s.engine.moves.length
    let unmute : List Instr := if r.mute = .unmuteAtStart then [match x with
      | .channel c => .muteAction c false
      | .master g => .masterMuteAction g false] else []
    let moved : List Instr := if r.level = p then [] else [match x with
      | .channel c => .automationPositionChanged c r.level
      | .master g => .masterPositionChanged g r.level]
    let mutes : List Instr := if r.mute = .muteAtEnd then [match x with
      | .channel c => .muteAction c true
      | .master g => .masterMuteAction g true] else []
    let report (res : MoveResult) (q : Position) : List Report :=
      if s.engine.reports.offers res then [.moveEnd s.engine.nextId (some n) x res q] else []
    let runs (m : Move) : Bool := m.isRunning && decide (m.target = x)
    let table (t : State) (ms : List Move) : Prop :=
      t.engine = { s.engine with moves := ms, nextId := (s.engine.nextId + 1) % 65536 }
    ∃ t, exec (.cueFire n [r] back) s = .next t ∧ KeepsBut [.handed, .reports, .engine, .channels] s t ∧
      (safed → Retaken [] s t ∧ table t s.engine.moves ∧ t.handed = u.handed ++ [.goodEvent .overflow] ∧
        OfferedEach (report .safed stands) s t) ∧
      (¬safed → 0 < delay → ¬full → Retaken [] s t ∧ table t (s.engine.moves ++ [made (.waiting delay)]) ∧
        t.handed = u.handed ++ [.goodEvent .overflow] ∧ OfferedEach [] s t) ∧
      (¬safed → (delay = 0 ∨ full) → Yields s x → Retaken [] s t ∧ table t s.engine.moves ∧
        (full → t.handed = u.handed ++ [.occurrence .overflow]) ∧
        (¬full → t.handed = u.handed ++ [.goodEvent .overflow]) ∧ OfferedEach (report .yielded stands) s t) ∧
      (¬safed → (delay = 0 ∨ full) → ¬Yields s x → Retaken (retakenAt s x) s t ∧
        let kept := s.engine.moves.filter fun m => !runs m
        let begun := u.handed ++ retakenEvents (retakenAt s x) s t ++ unmute
        let taken := (retakenAt s x).flatMap (fun c => settlingReports c s t) ++
          endReports s .takenOver (s.engine.moves.filter runs)
        (full → table t kept ∧ t.handed = begun ++ moved ++ [.occurrence .overflow] ∧
          OfferedEach (taken ++ report .overflow r.level) s t) ∧
        (¬full → duration = 0 → table t kept ∧ t.handed = begun ++ moved ++ mutes ++ [.goodEvent .overflow] ∧
          OfferedEach (taken ++ report .completed r.level) s t) ∧
        (¬full → duration ≠ 0 → table t (kept ++ [made (.running 0 p)]) ∧
          t.handed = begun ++ [.goodEvent .overflow] ∧ OfferedEach taken s t))

/-- For a list of 1 to 16 different channels, none SAFED, with nothing on its way to them and room in the table, CHAN_SET gives
each an id in the list's order. A TOUCHED channel under YIELD ends its move YIELDED. Any other starts from its P_auto, a
MANUAL one being taken back to AUTO first with P_auto at the release position less the working trim, and the RUNNING move on
it ends TAKEN_OVER: with a time of 1 to 600000 ms its move is entered RUNNING, with no source cue and mute action NONE; with
time 0 it snaps, handing a position that changes. The reply carries how many were entered. With 128 moves in the table a move
with a time is an overflow snap: it enters nothing, hands the position where it changes, ends OVERFLOW (or YIELDED), and one
OVERFLOW occurrence is handed last. At one SAFED channel CHAN_SET makes no move and takes no id: a MANUAL one is taken back
first, then P_auto is the level, and in AUTO P_eff follows. Any list, SAFED channels and others mixed, the table full or
filling, acts as its parts do one after the other: the same table, channels and reports, the counts added and one OVERFLOW
occurrence for all, handed last. GROUP_SET moves the one master it names, with an overflow snap where the table is full. A
level above 1023, a time above 600000, a curve above 3, a channel above 95 or named twice, a list of none or more than 16, or
a group above 15 is refused with RANGE and changes nothing. -/
def Obligations.ChanSetAndGroupSetStartMoves : Prop :=
  ∀ (tag : Byte) (level : Position) (time : Nat) (k : Curve) (s : State), PortFree s → time ≤ 600000 →
    (∀ cs : List ChanNo, cs ≠ [] → cs.length ≤ 16 → cs.Nodup → s.engine.nextId < 65536 →
      s.engine.moves.length + cs.length ≤ 128 →
      (∀ x ∈ cs, (s.channel x).safed = false ∧ TargetQuiet (.channel x) s) →
      (∀ m ∈ s.engine.moves, m.phase ≠ .waiting 0) →
      let c : Instr := .chanSet tag (.fields { channels := cs.map Fin.val, level := level.val, time := time, curve := curveCode k })
      let yields (x : ChanNo) : Bool := decide ((s.channel x).owner = .touched ∧ (s.channel x).touchPolicy = .yield)
      let runs (x : ChanNo) (m : Move) : Bool := m.isRunning && decide (m.target = .channel x)
      let kept := s.engine.moves.filter fun m => !cs.any fun x => !yields x && runs x m
      let made := cs.mapIdx fun i x =>
        ({ id := (s.engine.nextId + i) % 65536, cue := none, target := .channel x,
           phase := .running 0 (startPosition s (.channel x)), duration := time, goal := level, curve := k, mute := .none } : Move)
      let entered := made.filter fun m => decide (¬∃ x, m.target = .channel x ∧ yields x = true)
      let ended (i : Nat) (x : ChanNo) (res : MoveResult) (q : Position) : List Report :=
        if s.engine.reports.offers res then [.moveEnd ((s.engine.nextId + i) % 65536) none (.channel x) res q] else []
      ∃ t, exec c s = .next t ∧ KeepsBut [.port, .handed, .reports, .engine, .channels] s t ∧
        Retaken (cs.filter fun x => (s.channel x).owner = .manual) s t ∧
        t.engine = { s.engine with
          nextId := (s.engine.nextId + cs.length) % 65536, moves := kept ++ if time = 0 then [] else entered } ∧
        Answered c tag 0x30 .ok (bytesOf 1 (if time = 0 then 0 else entered.length)) s t ∧
        (t.handed = s.handed ++ cs.flatMap fun x =>
          retakenEvents (retakenAt s (.channel x)) s t ++
            if 0 < time ∨ yields x = true ∨ level = startPosition s (.channel x) then []
            else [.automationPositionChanged x level]) ∧
        OfferedEach (cs.mapIdx (fun i x =>
          if yields x then ended i x .yielded (s.channel x).pAuto
          else (retakenAt s (.channel x)).flatMap (fun c => settlingReports c s t) ++
            endReports s .takenOver (s.engine.moves.filter (runs x)) ++
            if time = 0 then ended i x .completed level else [])).flatten s t) ∧
    (∀ x : ChanNo, (s.channel x).safed = true →
      let c : Instr := .chanSet tag (.fields { channels := [x.val], level := level.val, time := time, curve := curveCode k })
      let set (r : Channel) : Channel :=
        if r.owner = .auto then { r with pAuto := level, pEff := ({ r with pAuto := level } : Channel).autoValue }
        else { r with pAuto := level }
      ∃ t, exec c s = .next t ∧ Answered c tag 0x30 .ok [0] s t ∧ KeepsBut [.port, .handed, .reports, .channels] s t ∧
        ((s.channel x).owner ≠ .manual → ∃ v, KeepsBut [.port] v t ∧ TakesPosition x (set (s.channel x)) [] s v) ∧
        ((s.channel x).owner = .manual → ∃ v w, KeepsBut [.port] w t ∧ TakesPosition x (s.channel x).retaken [] s v ∧
          TakesPosition x (set (v.channel x)) [] v w)) ∧
    (∀ x : ChanNo, (s.channel x).safed = false → TargetQuiet (.channel x) s → 128 ≤ s.engine.moves.length →
      (∀ m ∈ s.engine.moves, m.phase ≠ .waiting 0) →
      let c : Instr := .chanSet tag (.fields { channels := [x.val], level := level.val, time := time, curve := curveCode k })
      let runs (m : Move) : Bool := m.isRunning && decide (m.target = .channel x)
      let overflow : List Instr := if time = 0 then [] else [.occurrence .overflow]
      let report (res : MoveResult) (q : Position) : List Report :=
        if s.engine.reports.offers res then [.moveEnd s.engine.nextId none (.channel x) res q] else []
      ∃ t, exec c s = .next t ∧ KeepsBut [.port, .handed, .reports, .engine, .channels] s t ∧
        Answered c tag 0x30 .ok [0] s t ∧
        (Yields s (.channel x) → Retaken [] s t ∧ t.engine = { s.engine with nextId := (s.engine.nextId + 1) % 65536 } ∧
          t.handed = s.handed ++ overflow ∧ OfferedEach (report .yielded (s.channel x).pAuto) s t) ∧
        (¬Yields s (.channel x) → Retaken (retakenAt s (.channel x)) s t ∧
          t.engine = { s.engine with
            nextId := (s.engine.nextId + 1) % 65536, moves := s.engine.moves.filter fun m => !runs m } ∧
          t.handed = s.handed ++ retakenEvents (retakenAt s (.channel x)) s t ++
            (if level = startPosition s (.channel x) then [] else [.automationPositionChanged x level]) ++ overflow ∧
          OfferedEach ((retakenAt s (.channel x)).flatMap (fun c => settlingReports c s t) ++
            endReports s .takenOver (s.engine.moves.filter runs) ++
            report (if time = 0 then .completed else .overflow) level) s t)) ∧
    (∀ xs ys : List ChanNo, xs ≠ [] → ys ≠ [] → (xs ++ ys).length ≤ 16 → (xs ++ ys).Nodup →
      .occurrence .overflow ∉ s.handed →
      let c (zs : List ChanNo) : Instr :=
        .chanSet tag (.fields { channels := zs.map Fin.val, level := level.val, time := time, curve := curveCode k })
      let lost : Instr := .occurrence .overflow
      ∃ (a b t : State) (m n : Nat),
        let free : State :=
          { a with port := { a.port with inbound := s.port.inbound, reply := none }, handed := a.handed.erase lost }
        exec (c xs) s = .next a ∧ Answered (c xs) tag 0x30 .ok (bytesOf 1 m) s a ∧
        exec (c ys) free = .next b ∧ Answered (c ys) tag 0x30 .ok (bytesOf 1 n) free b ∧
        exec (c (xs ++ ys)) s = .next t ∧ Answered (c (xs ++ ys)) tag 0x30 .ok (bytesOf 1 (m + n)) s t ∧
        KeepsBut [.port, .handed, .reports, .engine, .channels] s t ∧ t.engine = b.engine ∧ t.channels = b.channels ∧
        t.port.reports = b.port.reports ∧ t.port.flags.reportLost = b.port.flags.reportLost ∧
        t.handed = b.handed.erase lost ++ if lost ∈ a.handed ∨ lost ∈ b.handed then [lost] else []) ∧
    (∀ g : GroupNo, TargetQuiet (.master g) s → (∀ m ∈ s.engine.moves, m.phase ≠ .waiting 0) →
      let c : Instr := .groupSet tag (.fields { group := g.val, position := level.val, time := time, curve := curveCode k })
      let runs (m : Move) : Bool := m.isRunning && decide (m.target = .master g)
      let kept := s.engine.moves.filter fun m => !runs m
      let taken := endReports s .takenOver (s.engine.moves.filter runs)
      let moved : List Instr := if level = (s.group g).master then [] else [.masterPositionChanged g level]
      let report (res : MoveResult) : List Report :=
        if s.engine.reports.offers res then [.moveEnd s.engine.nextId none (.master g) res level] else []
      let table (t : State) (ms : List Move) : Prop :=
        t.engine = { s.engine with nextId := (s.engine.nextId + 1) % 65536, moves := ms }
      ∃ t, exec c s = .next t ∧ KeepsBut [.port, .handed, .reports, .engine] s t ∧
        (0 < time → s.engine.moves.length < 128 →
          table t (kept ++
            [{ id := s.engine.nextId, cue := none, target := .master g, phase := .running 0 (s.group g).master,
               duration := time, goal := level, curve := k, mute := .none }]) ∧
          t.handed = s.handed ∧ Answered c tag 0x41 .ok [1] s t ∧ OfferedEach taken s t) ∧
        (0 < time → 128 ≤ s.engine.moves.length →
          table t kept ∧ t.handed = s.handed ++ moved ++ [.occurrence .overflow] ∧ Answered c tag 0x41 .ok [0] s t ∧
          OfferedEach (taken ++ report .overflow) s t) ∧
        (time = 0 → table t kept ∧ t.handed = s.handed ++ moved ∧ Answered c tag 0x41 .ok [0] s t ∧
          OfferedEach (taken ++ report .completed) s t)) ∧
    (∀ f : GroupSetFields, (15 < f.group ∨ 1023 < f.position ∨ 600000 < f.time ∨ 3 < f.curve) →
      ∃ t, exec (.groupSet tag (.fields f)) s = .next t ∧ KeepsBut [.port] s t ∧
        Answered (.groupSet tag (.fields f)) tag 0x41 .range [] s t) ∧
    ∀ f : ChanSetFields,
      (f.channels = [] ∨ 16 < f.channels.length ∨ 1023 < f.level ∨ 600000 < f.time ∨ 3 < f.curve ∨
        (∃ x ∈ f.channels, 95 < x) ∨ ¬f.channels.Nodup) →
      ∃ t, exec (.chanSet tag (.fields f)) s = .next t ∧ KeepsBut [.port] s t ∧
        Answered (.chanSet tag (.fields f)) tag 0x30 .range [] s t

/-- When no WAITING move starts at it, a clock step at the Move Engine that is not held counts every delay down by 1, advances
every RUNNING move's elapsed by 1 and removes those that reach their duration, the rest keeping their order. In table order
each RUNNING move whose position changes hands its target the new position, and one that completes hands MUTE_AT_END and, in
the mode ALL, offers COMPLETED with its goal. Held, a clock step only takes its event. Nothing else changes. MOVE_COMPLETED
of a move that reaches its duration does the same (the model's choice, logs 4 and 25). -/
def Obligations.MovesAdvanceAndComplete : Prop :=
  ∀ (time : Nat) (s : State),
    let step : Instr := .moveEngineClockStep time
    let u := s.take step
    (s.engine.held = true → exec step s = .next u) ∧
    (s.engine.held = false → (∀ m ∈ s.engine.moves, ∀ d, m.phase = .waiting d → 2 ≤ d) →
      let position (m : Move) (start q : Position) : List Instr :=
        if q = start then [] else [match m.target with
          | .channel c => .automationPositionChanged c q
          | .master g => .masterPositionChanged g q]
      let muted (m : Move) : List Instr :=
        if m.mute = .muteAtEnd then [match m.target with
          | .channel c => .muteAction c true
          | .master g => .masterMuteAction g true] else []
      let ends (m : Move) : Bool := match m.phase with
        | .running e _ => decide (m.duration ≤ e + 1)
        | .waiting _ => false
      let stepped (m : Move) : Move := match m.phase with
        | .running e start => { m with phase := .running (e + 1) start }
        | .waiting d => { m with phase := .waiting (d - 1) }
      let hands (m : Move) : List Instr := match m.phase with
        | .running e start =>
          position m (m.positionAt start e) (m.positionAt start (e + 1)) ++ (if ends m then muted m else [])
        | .waiting _ => []
      ∃ t, exec step s = .next t ∧
        (step = s.nextStep (.moveEngineClockStep ·) → ∀ id, (∃ m ∈ s.engine.moves, m.id = id ∧ ends m = true) → exec (.moveCompleted id) s = .next t) ∧
        t.engine = { s.engine with moves := (s.engine.moves.filter fun m => !ends m).map stepped } ∧
        t.handed = u.handed ++ s.engine.moves.flatMap hands ∧
        OfferedEach (if s.engine.reports = .all then
          (s.engine.moves.filter ends).map fun m => .moveEnd m.id m.cue m.target .completed m.goal else []) s t ∧
        KeepsBut [.handed, .reports, .engine] s t)

/-- At a clock step of an engine that is not held, whatever the table holds but moves waiting 0 ms: let the moves with delay 1
have different targets with nothing on its way to them. Each starts, in table order: a TOUCHED channel under YIELD ends it
YIELDED with P_auto as final position; else it begins from P_auto or the master's position, a MANUAL channel being taken back
to AUTO first with P_auto at the release position less the working trim, and the RUNNING move on the target ends TAKEN_OVER
at the position last computed; UNMUTE_AT_START is handed; with duration 0 it hands the goal where that differs and
MUTE_AT_END and ends COMPLETED, else it is RUNNING at elapsed 0. Then the other delays count down and every other RUNNING
move advances as at any step. Two moves with durations on one AUTO channel that start at one step do so one after the other:
the later takes over the earlier, which ends TAKEN_OVER at its start position. MOVE_START of a move that starts is that clock
step (the model's choice, logs 4 and 25). -/
def Obligations.WaitingMovesStart : Prop :=
  (∀ (time : Nat) (s : State), s.engine.held = false → (∀ m ∈ s.engine.moves, m.phase ≠ .waiting 0) →
    let step : Instr := .moveEngineClockStep time
    let u := s.take step
    let begins := s.engine.moves.filter fun m => m.phase = .waiting 1
    (begins.map Move.target).Nodup → (∀ m ∈ begins, TargetQuiet m.target u) →
    let yields (x : Target) : Bool := match x with
      | .channel c => decide ((s.channel c).owner = .touched ∧ (s.channel c).touchPolicy = .yield)
      | .master _ => false
    let start (m : Move) : Position := startPosition s m.target
    let muteTo (m : Move) (on : Bool) : Instr := match m.target with
      | .channel c => .muteAction c on
      | .master g => .masterMuteAction g on
    let positionTo (m : Move) (old new : Position) : List Instr := if new = old then [] else [match m.target with
      | .channel c => .automationPositionChanged c new
      | .master g => .masterPositionChanged g new]
    let mutesAtEnd (m : Move) : List Instr := if m.mute = .muteAtEnd then [muteTo m true] else []
    let report (m : Move) (res : MoveResult) (q : Position) : List Report :=
      if s.engine.reports.offers res then [.moveEnd m.id m.cue m.target res q] else []
    let taken (m : Move) : Bool := m.isRunning && begins.any fun b => decide (b.target = m.target) && !yields m.target
    let ends (m : Move) : Bool := match m.phase with
      | .running e _ => !taken m && decide (m.duration ≤ e + 1)
      | .waiting _ => false
    let after (m : Move) : Option Move := match m.phase with
      | .waiting d =>
        if d ≠ 1 then some { m with phase := .waiting (d - 1) }
        else if yields m.target || decide (m.duration = 0) then none
        else some { m with phase := .running 0 (start m), earlierYields := 0 }
      | .running e p => if taken m || ends m then none else some { m with phase := .running (e + 1) p }
    let startHands (t : State) (m : Move) : List Instr :=
      if yields m.target then []
      else retakenEvents (retakenAt s m.target) s t ++ (if m.mute = .unmuteAtStart then [muteTo m false] else []) ++
        if m.duration = 0 then positionTo m (start m) m.goal ++ mutesAtEnd m else []
    let startReports (t : State) (m : Move) : List Report :=
      if yields m.target then report m .yielded (start m)
      else (retakenAt s m.target).flatMap (fun c => settlingReports c s t) ++
        endReports s .takenOver (s.engine.moves.filter fun x => x.isRunning && decide (x.target = m.target)) ++
        if m.duration = 0 then report m .completed m.goal else []
    let stepHands (m : Move) : List Instr := match m.phase with
      | .running e p => if taken m then [] else
        positionTo m (m.positionAt p e) (m.positionAt p (e + 1)) ++ if ends m then mutesAtEnd m else []
      | .waiting _ => []
    ∃ t, exec step s = .next t ∧
      (step = s.nextStep (.moveEngineClockStep ·) → ∀ m ∈ begins, exec (.moveStart m.id) s = .next t) ∧
      Retaken (begins.flatMap fun m => retakenAt s m.target) s t ∧
      t.engine = { s.engine with moves := s.engine.moves.filterMap after } ∧
      t.handed = u.handed ++ begins.flatMap (startHands t) ++ s.engine.moves.flatMap stepHands ∧
      OfferedEach (begins.flatMap (startReports t) ++
        (s.engine.moves.filter ends).flatMap fun m => report m .completed m.goal) s t ∧
      KeepsBut [.handed, .reports, .engine, .channels] s t) ∧
  ∀ (c : ChanNo) (before between after : List Move) (m₁ m₂ : Move) (time : Nat) (s : State),
    s.engine.moves = before ++ m₁ :: between ++ m₂ :: after → s.engine.held = false →
    (∀ m ∈ before ++ between ++ after, ∃ d, m.phase = .waiting d ∧ 2 ≤ d) →
    (∀ m ∈ [m₁, m₂], m.target = .channel c ∧ m.phase = .waiting 1 ∧ m.duration ≠ 0) → m₁.mute ≠ .unmuteAtStart →
    (s.channel c).owner = .auto → TargetQuiet (.channel c) (s.take (.moveEngineClockStep time)) →
    let p := (s.channel c).pAuto
    let counted (l : List Move) : List Move := l.map Move.countDown
    ∃ t, exec (.moveEngineClockStep time) s = .next t ∧ KeepsBut [.handed, .reports, .engine] s t ∧
      t.engine = { s.engine with
        moves := counted before ++ counted between ++ { m₂ with phase := .running 0 p, earlierYields := 0 } :: counted after } ∧
      t.handed = (s.take (.moveEngineClockStep time)).handed ++
        (if m₂.mute = .unmuteAtStart then [.muteAction c false] else []) ∧
      OfferedEach (if s.engine.reports = .all then [.moveEnd m₁.id m₁.cue (.channel c) .takenOver p] else []) s t

/-- A channel made safe event ends every move whose target is the channel, WAITING or RUNNING, with the result SAFED; a
cancellation ends every move, with CANCELLED. A channel yielded event ends the RUNNING move on the channel with YIELDED,
unless the move started after the event was handed and the channel is no longer TOUCHED (log 29: such a move is one yield
older). The other moves keep their order. Each end is reported in table order where the mode offers it, with the position
last computed, or the target's present one for a WAITING move. Playback held and resumed set and clear the held mark. Nothing
else changes. -/
def Obligations.MovesEndEarly : Prop :=
  ∀ (c : ChanNo) (s : State),
    (∃ t, exec (.channelMadeSafe c) s = .next t ∧ MovesEnd (fun m => decide (m.target = .channel c)) .safed s t ∧
      t.handed = s.handed.erase (.channelMadeSafe c) ∧ KeepsBut [.handed, .reports, .engine] s t) ∧
    (∃ t, exec .cancellation s = .next t ∧ t.engine = { s.engine with moves := [] } ∧
      OfferedEach (endReports s .cancelled s.engine.moves) s t ∧
      t.handed = s.handed.erase .cancellation ∧ KeepsBut [.handed, .reports, .engine] s t) ∧
    (let ends (m : Move) : Bool := m.isRunning && decide (m.target = .channel c) &&
        (decide ((s.channel c).owner = .touched) || decide (m.earlierYields = 0))
     ∃ t, exec (.channelYielded c) s = .next t ∧
      t.engine = { s.engine with moves := (s.engine.moves.filter fun m => !ends m).map fun m =>
        if m.isRunning ∧ m.target = .channel c then { m with earlierYields := m.earlierYields - 1 } else m } ∧
      OfferedEach (endReports s .yielded (s.engine.moves.filter ends)) s t ∧
      t.handed = s.handed.erase (.channelYielded c) ∧ KeepsBut [.handed, .reports, .engine] s t) ∧
    exec .playbackHeld s = .next { s.take .playbackHeld with engine := { s.engine with held := true } } ∧
    exec .playbackResumed s = .next { s.take .playbackResumed with engine := { s.engine with held := false } }

/-- A part whose header stands in part 0 alone is in sequence when it is part 0 or the part the buffer of the same cue expects;
otherwise it is refused with STATE. In sequence it is in range when its cue number is 1 to 99999, its last mark 0 or 1, its
records 0 to 6 in part 0 and 1 to 6 in a later part, the staged records (none before part 0) with its own at most 64, and
each field within its values: in the header a label of up to 16 characters 20h to 7Eh, a follow of 1 to 600000 ms or absent,
a link of 1 to 99999 or absent, an age flag of 0 or 1; in each record a LIST of 1 to 16 channels 0 to 95, strictly ascending,
a RANGE of channels 0 to 95, first not above last, or a group of 0 to 15, a level of 0 to 1023, a delay and a time of 0 to
600000 ms, a curve of 0 to 3 and a mute action of 0 to 2. Any failure is refused with RANGE; a refusal changes nothing. In
range and without the last mark it is staged: the buffer holds the cue number, the header of part 0, the staged records
followed by the part's own in order, and expects the next part (part 65 after part 64: log 30). The reply is OK and carries
the number, the count of staged records and the next part. -/
def Obligations.CueLoadPartsAreStaged : Prop :=
  ∀ (tag : Byte) (f : CueLoadFields) (s : State), PortFree s → (f.part = 0 ↔ f.header.isSome = true) →
    let c : Instr := .cueLoad tag (.fields f)
    let buffer := s.store.buffer
    let sequence := f.part = 0 ∨ ∃ b, buffer = some b ∧ b.number = f.cue ∧ b.nextPart = f.part
    (¬sequence → ∃ t, exec c s = .next t ∧ Answered c tag 0x10 .state [] s t ∧ KeepsBut [.port] s t) ∧
    (sequence → ¬partInRange buffer f →
      ∃ t, exec c s = .next t ∧ Answered c tag 0x10 .range [] s t ∧ KeepsBut [.port] s t) ∧
    (sequence → partInRange buffer f → f.last = 0 →
      ∃ t b rs, exec c s = .next t ∧ t.store = { s.store with buffer := some b } ∧
        rs.map carriedRecord = f.records ∧ b.staged = stagedBefore buffer f ++ rs ∧
        b.number = f.cue ∧ b.nextPart = f.part + 1 ∧
        (f.part = 0 → f.header = some (carriedHeader b.header)) ∧
        (f.part ≠ 0 → some b.header = buffer.map LoadBuffer.header) ∧ KeepsBut [.port, .store] s t ∧
        Answered c tag 0x10 .ok (bytesOf 3 f.cue ++ bytesOf 1 b.staged.length ++ bytesOf 1 (f.part + 1)) s t)

/-- A part in sequence and in range that carries the last mark commits the cue made of the header and all staged records: those
staged before it (none before part 0) followed by the part's own, in order, with the header of part 0 or the one staged. With
a legal list (strictly rising numbers, at most 512 cues and 4096 records): if the counts after the commit stay within 512 and
4096, the cue is found under its number, every other number finds what it found before, the list is legal, the generation
advances by 1 (65535 to 0), the load buffer is absent, the list edited event ADDED or REPLACED is handed with the cue count,
and the reply carries the result, the generation and the counts. Otherwise the request is refused with FULL and changes
nothing. -/
def Obligations.CommitsPutTheCueIntoTheList : Prop :=
  ∀ (tag : Byte) (f : CueLoadFields) (s : State), PortFree s → ListLegal s → (f.part = 0 ↔ f.header.isSome = true) →
    (f.part = 0 ∨ ∃ b, s.store.buffer = some b ∧ b.number = f.cue ∧ b.nextPart = f.part) →
    partInRange s.store.buffer f → f.last = 1 →
    let c : Instr := .cueLoad tag (.fields f)
    let old := lookupExact s.store.cues f.cue
    let staged := stagedBefore s.store.buffer f
    let cuesAfter := s.store.cues.length + (if old = none then 1 else 0)
    let recordsAfter := recordCount s.store.cues - (old.map fun d => d.records.length).getD 0 + (staged.length + f.records.length)
    ∃ t rs h, exec c s = .next t ∧ rs.map carriedRecord = f.records ∧
      (f.part = 0 → f.header = some (carriedHeader h)) ∧ (f.part ≠ 0 → s.store.buffer.map LoadBuffer.header = some h) ∧
      (cuesAfter ≤ 512 ∧ recordsAfter ≤ 4096 →
        ListLegal t ∧ t.store.cues.length = cuesAfter ∧ recordCount t.store.cues = recordsAfter ∧
        lookupExact t.store.cues f.cue = some { number := f.cue, header := h, records := staged ++ rs } ∧
        (∀ n, n ≠ f.cue → lookupExact t.store.cues n = lookupExact s.store.cues n) ∧
        t.store.generation = (s.store.generation + 1) % 65536 ∧ t.store.buffer = none ∧
        t.handed = s.handed ++
          [.listEdited (if old = none then .added f.cue s.store.cues.isEmpty else .replaced f.cue) cuesAfter] ∧
        Answered c tag 0x10 .ok
          ([if old = none then 0 else 1] ++ bytesOf 2 t.store.generation ++ bytesOf 2 cuesAfter ++ bytesOf 2 recordsAfter) s t ∧
        KeepsBut [.port, .store, .handed] s t) ∧
      (¬(cuesAfter ≤ 512 ∧ recordsAfter ≤ 4096) → Answered c tag 0x10 .full [] s t ∧ KeepsBut [.port] s t)

/-- With a legal list, CUE_DELETE of a number in the list leaves no cue under that number and every other as it was, the list
legal, one cue and that cue's records fewer; LIST_CLEAR leaves no cue. Each advances the generation by 1 (65535 to 0), leaves
the load buffer, hands the list edited event with the cue count after it, and is answered OK with the new generation,
CUE_DELETE with both counts too. CUE_DELETE of a number of 1 to 99999 that no cue holds is refused with ABSENT, of any other
number with RANGE, and changes nothing. -/
def Obligations.DeleteAndClearEditTheList : Prop :=
  ∀ (tag : Byte) (s : State), PortFree s → ListLegal s →
    (∀ n d, 1 ≤ n → n ≤ 99999 → lookupExact s.store.cues n = some d →
      let c : Instr := .cueDelete tag (.fields n)
      ∃ t, exec c s = .next t ∧ ListLegal t ∧ lookupExact t.store.cues n = none ∧
        (∀ m, m ≠ n → lookupExact t.store.cues m = lookupExact s.store.cues m) ∧
        t.store.cues.length + 1 = s.store.cues.length ∧
        recordCount t.store.cues + d.records.length = recordCount s.store.cues ∧
        t.store.generation = (s.store.generation + 1) % 65536 ∧ t.store.buffer = s.store.buffer ∧
        t.handed = s.handed ++ [.listEdited (.deleted n) t.store.cues.length] ∧
        Answered c tag 0x11 .ok (bytesOf 2 t.store.generation ++ bytesOf 2 t.store.cues.length ++
          bytesOf 2 (recordCount t.store.cues)) s t ∧ KeepsBut [.port, .store, .handed] s t) ∧
    (∀ n, (1 ≤ n ∧ n ≤ 99999 → lookupExact s.store.cues n = none) →
      ∃ t, exec (.cueDelete tag (.fields n)) s = .next t ∧ KeepsBut [.port] s t ∧
        Answered (.cueDelete tag (.fields n)) tag 0x11 (if 1 ≤ n ∧ n ≤ 99999 then .absent else .range) [] s t) ∧
    ∃ t, exec (.listClear tag (.fields ())) s = .next t ∧
      t.store = { s.store with cues := [], generation := (s.store.generation + 1) % 65536 } ∧
      t.handed = s.handed ++ [.listEdited .cleared 0] ∧ KeepsBut [.port, .store, .handed] s t ∧
      Answered (.listClear tag (.fields ())) tag 0x13 .ok (bytesOf 2 ((s.store.generation + 1) % 65536)) s t

/-- For every move record whose targets, delay and time are in range, the bytes in which the part lays it out are read, whatever
follows them, as fields that pass the range checks and are that very record, and exactly the bytes that follow are left over. -/
def Obligations.MoveRecordsReadBack : Prop :=
  ∀ (r : MoveRecord) (rest : List Byte), r.wellFormed = true →
    ∃ raw, readRecord (recordBytes r ++ rest) = some (raw, rest) ∧ recordOf? raw = some r

/-- With a present expected cue equal to the standby and a present expected generation equal to the list's, in READY, or
FOLLOWING with a standby, GO fires the cue found AT_OR_ABOVE the standby: the cue fire event and, for an aging cue, the
rotation order are handed, the last-fired cue, the standby, the follow and the state are those of R111, R112 and R109,
CUE_FIRED is offered with the cause GO, and the reply carries the cue, the new standby and the generation. In EMPTY, END,
HELD, or FOLLOWING without a standby it is refused with STATE, where an expected value differs with STALE, where no cue is
found with ABSENT; then nothing changes. An expected cue outside 1 to 99999 or generation above 65535 is refused with RANGE
in every state, and nothing changes. -/
def Obligations.GoFiresTheStandby : Prop :=
  ∀ (tag : Byte) (cue generation : Option Nat) (s : State), PortFree s →
    let c : Instr := .go tag (.fields { cue := cue, generation := generation })
    ((∃ n ∈ cue, n < 1 ∨ 99999 < n) ∨ (∃ g ∈ generation, 65535 < g) →
      ∃ t, exec c s = .next t ∧ Answered c tag 0x20 .range [] s t ∧ KeepsBut [.port] s t) ∧
    ((∀ n ∈ cue, 1 ≤ n ∧ n ≤ 99999) → (∀ g ∈ generation, g ≤ 65535) →
    let stateAllows := s.seq.state = .ready ∨ s.seq.state = .following ∧ s.seq.standby ≠ none
    let expected := (∀ n ∈ cue, s.seq.standby = some n) ∧ ∀ g ∈ generation, g = s.store.generation
    let found := s.seq.standby.bind (lookupAtOrAbove s.store.cues)
    ∃ t, exec c s = .next t ∧
      (¬stateAllows → Answered c tag 0x20 .state [] s t ∧ KeepsBut [.port] s t) ∧
      (stateAllows → ¬expected → Answered c tag 0x20 .stale [] s t ∧ KeepsBut [.port] s t) ∧
      (stateAllows → expected → found = none → Answered c tag 0x20 .absent [] s t ∧ KeepsBut [.port] s t) ∧
      (stateAllows → expected → ∀ q, found = some q →
        Fired q s.store.cues s.seq t.seq ∧ t.handed = s.handed ++ fireEvents q ∧
        OfferedEach [.cueFired q.number .go t.seq.standby q.header.follow s.clock.showTime] s t ∧
        Answered c tag 0x20 .ok (bytesOf 3 q.number ++ bytesOf 3 (t.seq.standby.getD 0) ++ bytesOf 2 s.store.generation) s t ∧
        KeepsBut [.port, .handed, .reports, .seq] s t))

/-- For a number of 1 to 99999: GOTO with the fire option clear makes a cue of the list the standby and works the state out, HELD
staying HELD; it fires nothing and carries the number. With the fire option set (the value 1 of GOTO, and the row GOTO_FIRE)
the cue is fired with the cause GOTO, the reply as for GO; in HELD it is refused with STATE. A number no cue holds is refused
with ABSENT, a fire option that is neither clear nor set, a value above 1, with RANGE, and so is a number outside 1 to 99999
with any option. A refusal changes nothing. With each value of the option, and in every state, the request answers a next
state. -/
def Obligations.GotoSetsTheStandbyOrFires : Prop :=
  ∀ (tag : Byte) (n : Nat) (s : State), PortFree s →
    (1 ≤ n ∧ n ≤ 99999 →
      (let c : Instr := .goto tag (.fields { cue := n, fire := 0 })
       ∃ t, exec c s = .next t ∧
        (lookupExact s.store.cues n = none → Answered c tag 0x22 .absent [] s t ∧ KeepsBut [.port] s t) ∧
        (lookupExact s.store.cues n ≠ none →
          t.seq = { s.seq with
            standby := some n
            state := if s.seq.state = .held then .held else playStateBy s.seq.follow s.seq.listEmpty (some n) } ∧
          Answered c tag 0x22 .ok (bytesOf 3 n) s t ∧ KeepsBut [.port, .seq] s t)) ∧
      ∀ c ∈ [Instr.goto tag (.fields { cue := n, fire := 1 }), .gotoFire tag (.fields n)],
        ∃ t, exec c s = .next t ∧
          (s.seq.state = .held → Answered c tag 0x22 .state [] s t ∧ KeepsBut [.port] s t) ∧
          (s.seq.state ≠ .held → lookupExact s.store.cues n = none →
            Answered c tag 0x22 .absent [] s t ∧ KeepsBut [.port] s t) ∧
          (s.seq.state ≠ .held → ∀ q, lookupExact s.store.cues n = some q →
            Fired q s.store.cues s.seq t.seq ∧ t.handed = s.handed ++ fireEvents q ∧
            OfferedEach [.cueFired q.number .goto t.seq.standby q.header.follow s.clock.showTime] s t ∧
            Answered c tag 0x22 .ok (bytesOf 3 q.number ++ bytesOf 3 (t.seq.standby.getD 0) ++ bytesOf 2 s.store.generation) s t ∧
            KeepsBut [.port, .handed, .reports, .seq] s t)) ∧
    (∀ v, 1 < v ∨ n < 1 ∨ 99999 < n → ∃ t, exec (.goto tag (.fields { cue := n, fire := v })) s = .next t ∧
      KeepsBut [.port] s t ∧ Answered (.goto tag (.fields { cue := n, fire := v })) tag 0x22 .range [] s t) ∧
    (n < 1 ∨ 99999 < n → ∃ t, exec (.gotoFire tag (.fields n)) s = .next t ∧
      KeepsBut [.port] s t ∧ Answered (.gotoFire tag (.fields n)) tag 0x22 .range [] s t)

/-- In every state, when a cue lies below the last-fired cue, BACK hands its cue fire event with the back time and no rotation
order; the last-fired cue becomes that cue, the standby the lowest cue above it whatever its link, any countdown ends and
none starts, the state is worked out or stays HELD, CUE_FIRED is offered with the cause BACK and no follow, and the reply
carries the cue and the new standby. Otherwise it is refused with ABSENT and changes nothing. -/
def Obligations.BackFiresTheCueBelow : Prop :=
  ∀ (tag : Byte) (s : State), PortFree s →
    let c : Instr := .back tag (.fields ())
    let found := s.seq.lastFired.bind (lookupBelow s.store.cues)
    ∃ t, exec c s = .next t ∧
      (found = none → Answered c tag 0x21 .absent [] s t ∧ KeepsBut [.port] s t) ∧
      ∀ b, found = some b →
        let above := (lookupAbove s.store.cues b.number).map Cue.number
        t.seq = { s.seq with
          lastFired := some b.number
          standby := above
          follow := none
          state := if s.seq.state = .held then .held else playStateBy none s.seq.listEmpty above } ∧
        t.handed = s.handed ++ [.cueFire b.number b.records (some s.seq.backTime)] ∧
        OfferedEach [.cueFired b.number .back above none s.clock.showTime] s t ∧
        Answered c tag 0x21 .ok (bytesOf 3 b.number ++ bytesOf 3 (above.getD 0)) s t ∧
        KeepsBut [.port, .handed, .reports, .seq] s t

/-- HOLD outside HELD makes the state HELD, leaves every other field of the sequencer and hands the playback held event; in HELD
it changes nothing; it is always answered OK. STOP hands a cancellation, carries the number of active moves, and changes
nothing of the sequencer. PLAYBACK_CONFIG with 0 to 600000 writes the back time, above it is refused with RANGE, and without
a payload changes nothing; its OK reply carries the back time in force. -/
def Obligations.HoldStopAndBackTime : Prop :=
  ∀ (tag : Byte) (s : State), PortFree s →
    (let c : Instr := .hold tag (.fields ())
     ∃ t, exec c s = .next t ∧ Answered c tag 0x23 .ok [] s t ∧ t.seq = { s.seq with state := .held } ∧
      t.handed = s.handed ++ (if s.seq.state = .held then [] else [.playbackHeld]) ∧ KeepsBut [.port, .handed, .seq] s t) ∧
    (let c : Instr := .stop tag (.fields ())
     ∃ t, exec c s = .next t ∧ Answered c tag 0x25 .ok (bytesOf 1 s.engine.moves.length) s t ∧
      t.handed = s.handed ++ [.cancellation] ∧ KeepsBut [.port, .handed] s t) ∧
    ∀ time : Option Nat,
      let c : Instr := .playbackConfig tag (.fields time)
      ∃ t, exec c s = .next t ∧
        ((∀ x ∈ time, x ≤ 600000) → t.seq = { s.seq with backTime := time.getD s.seq.backTime } ∧
          Answered c tag 0x29 .ok (bytesOf 3 (time.getD s.seq.backTime)) s t ∧ KeepsBut [.port, .seq] s t) ∧
        (∀ x, time = some x → 600000 < x → Answered c tag 0x29 .range [] s t ∧ KeepsBut [.port] s t)

/-- Outside HELD, or under an action of HOLD or more severe, RESUME is refused with STATE and changes nothing. Otherwise the
state is worked out, every DUE trigger is removed and the playback resumed event is handed; then the DUE triggers are taken
one after the other in list order: one whose cue is in the list offers a SCHEDULE report of kind LATE and fires it with the
cause SCHEDULE_LATE, as the fire before left the sequencer, one whose cue is not offers a MISSED report alone. The reports
carry the clock's present show time (log 37), the reply the numbers fired late and missed. PENDING triggers stay. -/
def Obligations.ResumeEndsTheHold : Prop :=
  ∀ (tag : Byte) (s : State), PortFree s →
    let c : Instr := .resume tag (.fields ())
    let dues := s.seq.schedule.filter Trigger.due
    let found := dues.filter fun x => (lookupExact s.store.cues x.cue).isSome
    let ended : Sequencer :=
      { s.seq with
        state := playStateBy s.seq.follow s.seq.listEmpty s.seq.standby
        schedule := s.seq.schedule.filter fun x => !x.due }
    ∃ t, exec c s = .next t ∧
      (s.seq.state ≠ .held ∨ holds s.seq.action = true → Answered c tag 0x24 .state [] s t ∧ KeepsBut [.port] s t) ∧
      (s.seq.state = .held → holds s.seq.action = false →
        KeepsBut [.port, .handed, .reports, .seq] s t ∧
        Answered c tag 0x24 .ok (bytesOf 1 found.length ++ bytesOf 1 (dues.length - found.length)) s t ∧
        (dues = [] → t.seq = ended ∧ t.handed = s.handed ++ [.playbackResumed] ∧ OfferedEach [] s t) ∧
        ∃ es rs, TriggersTaken s.store.cues .scheduleLate true s.clock.showTime dues ended t.seq es rs ∧
          t.handed = s.handed ++ [.playbackResumed] ++ es ∧ OfferedEach rs s t)

/-- With no trigger coming due at it, a clock step at the sequencer in HELD, or without a countdown, changes nothing; above 1 the
countdown falls by 1. At 1 it becomes absent and the follow expires in the same step: the cue found AT_OR_ABOVE the standby
is fired with the cause FOLLOW, and with none found the standby becomes none and the state END, or EMPTY for an empty list.
Its CUE_FIRED report carries the show time the step carries (the model's choice, log 37). FOLLOW_EXPIRY is that last step
(the model's choice, log 4). -/
def Obligations.FollowsCountDownAndExpire : Prop :=
  ∀ (now : Nat) (s : State), (∀ x ∈ s.seq.schedule, x.due = true ∨ now < x.time) →
    let u := s.take (.sequencerClockStep now)
    (s.seq.state = .held ∨ s.seq.follow = none → exec (.sequencerClockStep now) s = .next u) ∧
    ∀ f, s.seq.state ≠ .held → s.seq.follow = some f →
      (1 < f.countdown → exec (.sequencerClockStep now) s =
        .next { u with seq := { s.seq with follow := some { f with countdown := f.countdown - 1 } } }) ∧
      (f.countdown ≤ 1 → ∃ t, exec (.sequencerClockStep now) s = .next t ∧ exec (.followExpiry now) s = .next t ∧
        (s.seq.standby.bind (lookupAtOrAbove s.store.cues) = none →
          t = { u with seq := { s.seq with
            follow := none, standby := none, state := if s.seq.listEmpty then .empty else .ended } }) ∧
        ∀ q, s.seq.standby.bind (lookupAtOrAbove s.store.cues) = some q →
          Fired q s.store.cues s.seq t.seq ∧ t.handed = u.handed ++ fireEvents q ∧
          OfferedEach [.cueFired q.number .follow t.seq.standby q.header.follow now] s t ∧
          KeepsBut [.handed, .reports, .seq] s t)

/-- At a clock step in HELD every PENDING trigger at or below the step's show time becomes DUE in its place and nothing else
changes. Outside a hold the follow countdown is taken first: above 1 it falls by 1, at 1 it expires and fires the cue found
AT_OR_ABOVE the standby with the cause FOLLOW, or with none found leaves no standby and the state END or EMPTY. Then every
PENDING trigger at or below the show time is removed, and these are taken one after the other in list order, each as the fire
before left the sequencer: its cue, when in the list, is fired with the cause SCHEDULE and without a SCHEDULE report, else a
MISSED report is offered and nothing fires. The reports carry the show time of the step (log 37). SCHEDULE_TRIGGER_DUE of a
step at which a trigger comes due does the same (the model's choice, log 4). -/
def Obligations.TriggersComeDue : Prop :=
  ∀ (now : Nat) (s : State),
    let u := s.take (.sequencerClockStep now)
    let reached (x : Trigger) : Bool := !x.due && decide (x.time ≤ now)
    let dues := s.seq.schedule.filter reached
    let without (q : Sequencer) : Sequencer := { q with schedule := s.seq.schedule.filter fun x => !reached x }
    ∃ t, exec (.sequencerClockStep now) s = .next t ∧ (dues ≠ [] → exec (.scheduleTriggerDue now) s = .next t) ∧
      (s.seq.state = .held → t = { u with seq := { s.seq with
        schedule := s.seq.schedule.map fun x => if reached x then { x with due := true } else x } }) ∧
      (s.seq.state ≠ .held → KeepsBut [.handed, .reports, .seq] s t ∧
        ∃ q es₁ rs₁ es₂ rs₂,
          (s.seq.follow = none → q = s.seq ∧ es₁ = [] ∧ rs₁ = []) ∧
          (∀ f, s.seq.follow = some f →
            (1 < f.countdown → q = { s.seq with follow := some { f with countdown := f.countdown - 1 } } ∧ es₁ = [] ∧ rs₁ = []) ∧
            (f.countdown ≤ 1 →
              (s.seq.standby.bind (lookupAtOrAbove s.store.cues) = none →
                q = { s.seq with follow := none, standby := none, state := if s.seq.listEmpty then .empty else .ended } ∧
                es₁ = [] ∧ rs₁ = []) ∧
              ∀ c, s.seq.standby.bind (lookupAtOrAbove s.store.cues) = some c → Fired c s.store.cues s.seq q ∧
                es₁ = fireEvents c ∧ rs₁ = [.cueFired c.number .follow q.standby c.header.follow now])) ∧
          TriggersTaken s.store.cues .schedule false now dues (without q) t.seq es₂ rs₂ ∧
          t.handed = u.handed ++ es₁ ++ es₂ ∧ OfferedEach (rs₁ ++ rs₂) s t)

/-- With fewer than 16 triggers, a show time of up to 4294967295 and a cue number of 1 to 99999, SCHEDULE_ADD inserts a PENDING
trigger so that, the list being in order of time, every trigger before it is at or below its time and every one after it
above, and carries the new count; with 16 it is refused with FULL and nothing changes. SCHEDULE_CANCEL of a cue number
removes exactly the triggers naming it, PENDING or DUE, and is refused with ABSENT where none does; without a number (ALL) it
removes every trigger. The rest keep their order, the reply carries the number removed, and no report is made. A show time
above 4294967295 or a cue number outside 1 to 99999 is refused with RANGE by both, and nothing changes. -/
def Obligations.ScheduleListIsKeptInOrder : Prop :=
  ∀ (tag : Byte) (s : State), PortFree s →
    (∀ time cue, time ≤ 4294967295 → 1 ≤ cue → cue ≤ 99999 → s.seq.schedule.Pairwise (fun a b => a.time ≤ b.time) →
      let c : Instr := .scheduleAdd tag (.fields { time := time, cue := cue })
      ∃ t, exec c s = .next t ∧
        (16 ≤ s.seq.schedule.length → Answered c tag 0x26 .full [] s t ∧ KeepsBut [.port] s t) ∧
        (s.seq.schedule.length < 16 → KeepsBut [.port, .seq] s t ∧
          Answered c tag 0x26 .ok (bytesOf 1 (s.seq.schedule.length + 1)) s t ∧
          ∃ before after, s.seq.schedule = before ++ after ∧ (∀ x ∈ before, x.time ≤ time) ∧ (∀ x ∈ after, time < x.time) ∧
            t.seq = { s.seq with schedule := before ++ { time := time, cue := cue, due := false } :: after })) ∧
    (∀ time cue, (4294967295 < time ∨ cue < 1 ∨ 99999 < cue) →
      let c : Instr := .scheduleAdd tag (.fields { time := time, cue := cue })
      ∃ t, exec c s = .next t ∧ Answered c tag 0x26 .range [] s t ∧ KeepsBut [.port] s t) ∧
    (∀ n, (n < 1 ∨ 99999 < n) →
      let c : Instr := .scheduleCancel tag (.fields (some n))
      ∃ t, exec c s = .next t ∧ Answered c tag 0x27 .range [] s t ∧ KeepsBut [.port] s t) ∧
    (∀ n, 1 ≤ n → n ≤ 99999 →
      let c : Instr := .scheduleCancel tag (.fields (some n))
      let named := s.seq.schedule.filter fun x => x.cue = n
      ∃ t, exec c s = .next t ∧
        (named = [] → Answered c tag 0x27 .absent [] s t ∧ KeepsBut [.port] s t) ∧
        (named ≠ [] → t.seq = { s.seq with schedule := s.seq.schedule.filter fun x => x.cue ≠ n } ∧
          Answered c tag 0x27 .ok (bytesOf 1 named.length) s t ∧ KeepsBut [.port, .seq] s t)) ∧
    let c : Instr := .scheduleCancel tag (.fields none)
    ∃ t, exec c s = .next t ∧ t.seq = { s.seq with schedule := [] } ∧
      Answered c tag 0x27 .ok (bytesOf 1 s.seq.schedule.length) s t ∧ KeepsBut [.port, .seq] s t

/-- A list edited event sets the list empty mark from its count; ADDED of the first cue makes it the standby, DELETED of the
standby makes the lowest cue above it the standby, CLEARED makes standby and last-fired none, any other leaves both; the
state is worked out, HELD staying HELD. A show time set event that goes forward removes every PENDING trigger at or below the
new time and offers a MISSED report for each in order; one that does not go forward changes no trigger. An effective action
changed event writes the action, and from NONE to HOLD or more severe enters HELD, handing the playback held event unless
HELD already. Nothing else changes. -/
def Obligations.SequencerTakesItsEvents : Prop :=
  ∀ s : State,
    (∀ (e : Edit) (count : Nat),
      let standby := match e with
        | .added n true => some n
        | .deleted n => if s.seq.standby = some n then (lookupAbove s.store.cues n).map Cue.number else s.seq.standby
        | .cleared => none
        | _ => s.seq.standby
      exec (.listEdited e count) s = .next
        { s.take (.listEdited e count) with
          seq := { s.seq with
            listEmpty := decide (count = 0)
            standby := standby
            lastFired := if e = .cleared then none else s.seq.lastFired
            state := if s.seq.state = .held then .held else playStateBy s.seq.follow (decide (count = 0)) standby } }) ∧
    (∀ old new : Nat,
      let passes (x : Trigger) : Bool := decide (old < new) && !x.due && decide (x.time ≤ new)
      ∃ t, exec (.showTimeSet old new) s = .next t ∧ KeepsBut [.handed, .reports, .seq] s t ∧
        t.handed = s.handed.erase (.showTimeSet old new) ∧
        t.seq = { s.seq with schedule := s.seq.schedule.filter fun x => !passes x } ∧
        OfferedEach ((s.seq.schedule.filter passes).map fun x => .schedule false x.cue x.time s.clock.showTime) s t) ∧
    ∀ a : Action,
      exec (.effectiveActionAtSequencer a) s = .next
        (let enters := s.seq.action = .none ∧ a ≠ .none ∧ s.seq.state ≠ .held
         { s with
           handed := s.handed.erase (.effectiveActionAtSequencer a) ++ (if enters then [.playbackHeld] else [])
           seq := { s.seq with action := a, state := if enters then .held else s.seq.state } })

/-- Each microsecond makes progress at the running interval's rate offset; as an interval ends a clock step is due and the next
runs at the offset in force, the fraction carried. CLOCK_STEP takes a due step at once, else time runs to the first
microsecond with one due. The show time rises by 1, up to its limit, and every block that keeps time takes the step with it:
the Surface Controller at once, a scan coming due at each strip in the range with every second one (R141; log 31), the others
as events (in the model's order, log 5). A pulse is taken under EXTERNAL alone: the first only sets the mark; an accepted
period counts in ACQUIRING, at the 8th LOCKED with the good event, in LOCKED sets the silence to 0, in HOLDOVER returns to
LOCKED with the good event; a rejected one starts ACQUIRING again; any in LOST starts ACQUIRING. The offset is that of the
mean of up to 8 periods, rounded half up. Past its limit the silence is HOLDOVER, past 2000 ms HOLDOVER is LOST: an
occurrence, no history, no mark, offset 0, at which the rest of the time runs. Each change offers CLOCK_STATE, with the show
time that counts every step whose interval has ended as the change is taken, up to its limit (one ending at the same
microsecond counts, the model's choice, log 42). How passing time is counted is the model's (logs 8 and 27). The clock record
is within its ranges. -/
def Obligations.ClockStepsAndPulsesKeepTheLock : Prop :=
  ∀ s : State, ClockLegal s →
    let k := s.clock
    let limit := if k.rate = 24 then 83333 else if k.rate = 25 then 80000 else 66667
    let change (m : Clock) (old new : Nat) (rho : Int) : Report :=
      .clockState old new k.source k.rate (min (m.showTime + m.due) 4294967295) rho
    let lost (m : Clock) : Clock := { m with lock := .lost, rho := 0, history := [], mark := none }
    let passed (dt : Nat) : Clock × List Instr × List Report :=
      match k.lock with
      | .locked silence =>
        let entered := change (k.ticks (limit - silence)) 2 3 k.rho
        if silence + dt ≤ limit then ({ k.ticks dt with lock := .locked (silence + dt) }, [], [])
        else if silence + dt ≤ limit + 2000000 then
          ({ k.ticks dt with lock := .holdover (silence + dt - limit) }, [], [entered])
        else ((lost (k.ticks (limit + 2000000 - silence))).ticks (silence + dt - (limit + 2000000)),
          [.occurrence .clock], [entered, change (k.ticks (limit + 2000000 - silence)) 3 4 0])
      | .holdover held =>
        if held + dt ≤ 2000000 then ({ k.ticks dt with lock := .holdover (held + dt) }, [], [])
        else ((lost (k.ticks (2000000 - held))).ticks (held + dt - 2000000), [.occurrence .clock],
          [change (k.ticks (2000000 - held)) 3 4 0])
      | _ => (k.ticks dt, [], [])
    let becomes (e : Instr) (m : Clock) (es : List Instr) (rs : List Report) : Prop :=
      ∃ t, exec e s = .next t ∧ t.clock = m ∧ t.handed = s.handed ++ es ∧ OfferedEach rs s t ∧
        KeepsBut [.handed, .reports, .clock] s t
    let time := min (k.showTime + 1) 4294967295
    let steps (m : Clock) (es : List Instr) (rs : List Report) : Prop :=
      ∃ t, exec .clockStep s = .next t ∧ KeepsBut [.handed, .reports, .clock, .surface] s t ∧
        t.clock = { m with due := m.due - 1, showTime := time } ∧
        t.handed = s.handed ++ es ++ (allChannels.map fun c => .channelClockStep c time) ++
          [.moveEngineClockStep time, .sequencerClockStep time] ++ (allLinks.map fun l => .linkClockStep l time) ++
          [.portClockStep time] ∧
        OfferedEach rs s t ∧
        t.surface = { s.surface with halfStep := !s.surface.halfStep, strips := t.surface.strips } ∧
        ∀ n, t.strip n = if s.surface.halfStep = true ∧ s.surface.settings.start ≤ n.val ∧ n.val ≤ s.surface.settings.stop
          then { s.strip n with owed := (s.strip n).owed + 1 } else s.strip n
    (k.due ≠ 0 → steps k [] []) ∧
    (k.due = 0 → ∃ dt, (passed dt).1.due ≠ 0 ∧ (∀ d, d < dt → (passed d).1.due = 0) ∧
      steps (passed dt).1 (passed dt).2.1 (passed dt).2.2) ∧
    (∀ time : Nat,
      let e : Instr := .referencePulse time
      let p := passed (time - k.now)
      let m : Clock := { p.1 with mark := some p.1.now }
      (k.source = .internal → exec e s = .next s) ∧
      (k.source = .external → k.lock ≠ .free →
        (p.1.lock = .lost → becomes e { m with lock := .acquiring 0, rho := 0, history := [] } p.2.1 (p.2.2 ++ [change p.1 4 1 0])) ∧
        (p.1.lock ≠ .lost → p.1.mark = none → becomes e m p.2.1 p.2.2) ∧
        (∀ old, p.1.lock ≠ .lost → p.1.mark = some old →
          let period := p.1.now - old
          let window := if k.rate = 24 then (40834, 42500) else if k.rate = 25 then (39200, 40800) else (32667, 34000)
          let accepted : Prop := window.1 ≤ period ∧ period ≤ window.2
          let history := (m.history ++ [period]).drop (m.history.length + 1 - 8)
          let total : Int := k.rate * (history.sum : Nat)
          (accepted → ∀ n, p.1.lock = .acquiring n → n + 1 < 8 →
            becomes e { m with lock := .acquiring (n + 1), history := history } p.2.1 p.2.2) ∧
          (accepted → (∀ n, p.1.lock = .acquiring n → 8 ≤ n + 1) → ∃ rho : Int,
            (0 < total → 2 * total * rho ≤ 2 * (1000000 * (1000000 * history.length - total)) + total ∧
              2 * (1000000 * (1000000 * history.length - total)) + total < 2 * total * (rho + 1)) ∧
            let q : Clock := { m with lock := .locked 0, history := history, rho := rho }
            ((∃ silence, p.1.lock = .locked silence) → becomes e q p.2.1 p.2.2) ∧
            ((∀ silence, p.1.lock ≠ .locked silence) →
              becomes e q (p.2.1 ++ [.goodEvent .clock]) (p.2.2 ++ [change p.1 p.1.lock.code 2 rho]))) ∧
          (¬accepted → (∃ n, p.1.lock = .acquiring n) →
            becomes e { m with lock := .acquiring 0, history := [] } p.2.1 p.2.2) ∧
          (¬accepted → (∀ n, p.1.lock ≠ .acquiring n) → becomes e m p.2.1 p.2.2)))) ∧
    (∀ silence, k.lock = .locked silence → silence ≤ limit →
      let m := (passed (limit - silence)).1
      becomes .silenceLimit { m with lock := .holdover 0 } [] [change m 2 3 k.rho]) ∧
    ((∀ silence, k.lock ≠ .locked silence) → exec .silenceLimit s = .next s) ∧
    (∀ held, k.lock = .holdover held → held ≤ 2000000 →
      let m := (passed (2000000 - held)).1
      becomes .holdoverExpiry (lost m) [.occurrence .clock] [change m 3 4 0]) ∧
    ((∀ held, k.lock ≠ .holdover held) → exec .holdoverExpiry s = .next s)

/-- CLOCK_CONFIG with a source and a rate of 24, 25 or 30 writes both. INTERNAL leaves FREE as it is and takes every other lock
state to FREE, offset 0, no history, no mark; EXTERNAL at FREE, or with another rate, enters ACQUIRING anew, and with the
rate held changes nothing more. A change of lock state offers CLOCK_STATE, with the show time that counts the steps whose
intervals have ended (log 42), hands no fault event, and the reply carries source, rate and lock state; ACQUIRING entered
anew from ACQUIRING is no change (the model's choice, log 39); another source or rate gives RANGE. CLOCK_SET writes the show
time and nothing else of the clock, carries the old and the new, and hands a show time set event where they differ; above
4294967295 it gives RANGE. -/
def Obligations.ClockRequestsTakeEffect : Prop :=
  ∀ (tag : Byte) (s : State), PortFree s →
    let k := s.clock
    let reached := min (k.showTime + k.due) 4294967295
    (∀ (source : ClockSource) (rate : Nat), rate = 24 ∨ rate = 25 ∨ rate = 30 →
      let c : Instr := .clockConfig tag (.fields (some { source := if source = .internal then 0 else 1, rate := rate }))
      let m : Clock := { k with source := source, rate := rate }
      let empty (lock : LockState) : Clock := { m with lock := lock, rho := 0, history := [], mark := none }
      let becomes (q : Clock) : Prop :=
        ∃ t, exec c s = .next t ∧ t.clock = q ∧ KeepsBut [.port, .reports, .clock] s t ∧
          Answered c tag 0x70 .ok
            (([if source = .internal then 0 else 1, rate, q.lock.code]).map (BitVec.ofNat 8)) s t ∧
          OfferedEach (if q.lock.code = k.lock.code then []
            else [.clockState k.lock.code q.lock.code source rate reached q.rho]) s t
      (source = .internal → k.lock = .free → becomes m) ∧
      (source = .internal → k.lock ≠ .free → becomes (empty .free)) ∧
      (source = .external → k.lock = .free ∨ rate ≠ k.rate → becomes (empty (.acquiring 0))) ∧
      (source = .external → k.lock ≠ .free → rate = k.rate → becomes m)) ∧
    (∀ f : ClockFields, (1 < f.source ∨ (f.rate ≠ 24 ∧ f.rate ≠ 25 ∧ f.rate ≠ 30)) →
      ∃ t, exec (.clockConfig tag (.fields (some f))) s = .next t ∧
        Answered (.clockConfig tag (.fields (some f))) tag 0x70 .range [] s t ∧ KeepsBut [.port] s t) ∧
    ∀ time : Nat,
      let c : Instr := .clockSet tag (.fields time)
      ∃ t, exec c s = .next t ∧
        (time ≤ 4294967295 → t.clock = { k with showTime := time } ∧
          t.handed = s.handed ++ (if time = k.showTime then [] else [.showTimeSet k.showTime time]) ∧
          Answered c tag 0x71 .ok (bytesOf 4 k.showTime ++ bytesOf 4 time) s t ∧ KeepsBut [.port, .handed, .clock] s t) ∧
        (4294967295 < time → Answered c tag 0x71 .range [] s t ∧ KeepsBut [.port] s t)

/-- The converted position is the raw value on the calibrated travel, rounded half up, plus the fine offset, within 0 to 1023. A
scan reports it where it differs by the hysteresis or is an end, sets the touch reading and runs, and by the state: UNMAPPED
or DISABLED, nothing more; SEEKING or TRACKING with the on run complete, a touch; SEEKING, arrival within 4 steps, else the
seek time, at 400 a timeout and at the second DISABLED with a MOTOR occurrence; TRACKING, drift beyond the limit, at the
third such scan an implied touch; TOUCHED, a changed reported position to the channel, the off run complete a release, and
with the implied mark the on run clears it and 250 still scans release it. A release hands the event, reports RELEASED, makes
the strip TRACKING near its target, else SEEKING, and runs the assignment pass; the third stage then counts a seek or a drift
(log 14). The readings stand on the bus and one scan fewer is owed (log 31). The motor is driven toward the target in
SEEKING, holds it in TRACKING, and is off otherwise or without a target (log 32). A strip outside the scan range is not
scanned. SEEK_ARRIVED, SEEK_TIMEOUT and IMPLIED_RELEASE are the whole scans that arrive, time out and release so (log 4). -/
def Obligations.ScansReportPositionsAndTouches : Prop :=
  ∀ (n : StripNo) (raw : Fin 4096) (count : Byte) (s : State),
    let e : Instr := .scan n raw count
    let r : Strip := { s.strip n with owed := (s.strip n).owed - 1 }
    let x := s.surface.settings
    let conv := r.convert raw.val
    let rep := if x.hysteresis ≤ distance conv r.reported ∨ conv = 0 ∨ conv = 1023 then conv else r.reported
    let reading := if x.touch ≤ count.toNat then true else if count.toNat ≤ x.release then false else r.reading
    let placed : Strip := { r with raw := raw.val, converted := conv, reported := rep, reading := reading }
    let seen : Strip :=
      if reading then { placed with onRun := min (r.onRun + 1) x.debounce, offRun := 0 }
      else { placed with onRun := 0, offRun := min (r.offRun + 1) x.debounce }
    let touched : Prop := reading = true ∧ x.debounce ≤ r.onRun + 1
    let released : Prop := reading = false ∧ x.debounce ≤ r.offRun + 1
    let near (p : Position) : Prop := distance conv p ≤ 4
    let moves : List Instr := if rep = r.reported then [] else r.channel.toList.map fun c => .operatorPosition c n rep
    let holds (q : Strip) (es : List Instr) (rs : List Report) (t : State) : Prop :=
      t.strip n = q ∧ OnlyStrip n s t ∧
        t.surface = { s.surface with strips := t.surface.strips, bus := s.surface.bus.set n { raw := raw, touch := count } } ∧
        t.handed = s.handed ++ es ∧ OfferedEach rs s t ∧ KeepsBut [.handed, .reports, .surface] s t
    let becomes (q : Strip) (es : List Instr) (rs : List Report) : Prop := ∃ t, exec e s = .next t ∧ holds q es rs t
    let freed : Strip := { seen with state := if r.target.any fun p => distance conv p ≤ 4 then .tracking 0 else .seeking 0 }
    let thirdStage (w : State) : State :=
      let q := w.strip n
      w.setStrip n (match q.state, q.target with
        | .seeking k, some p =>
          if distance conv p ≤ 4 then { q with state := .tracking 0, timeouts := 0 } else { q with state := .seeking (k + 1) }
        | .tracking k, some p =>
          if distance conv p ≤ x.drift then { q with state := .tracking 0 } else { q with state := .tracking (k + 1) }
        | _, _ => q)
    let touches (implied : Bool) : Prop :=
      becomes { seen with state := .touched (if implied then some 0 else none) } (r.channel.toList.map fun c => .touchEvent c n rep)
        [.touch n r.channel false implied rep]
    (r.low < r.high → ∃ q : Int,
      2 * ((r.high : Int) - r.low) * q ≤ 2 * (((raw.val : Int) - r.low) * 1023) + ((r.high : Int) - r.low) ∧
      2 * (((raw.val : Int) - r.low) * 1023) + ((r.high : Int) - r.low) < 2 * ((r.high : Int) - r.low) * (q + 1) ∧
      (conv.val : Int) = max 0 (min 1023 (q + r.fine))) ∧
    (n.val < x.start ∨ x.stop < n.val → exec e s = .next s) ∧
    (x.start ≤ n.val → n.val ≤ x.stop →
      (r.state = .unmapped ∨ r.state = .disabled → becomes { placed with onRun := 0, offRun := 0 } [] []) ∧
      (∀ time, r.state = .seeking time →
        (touched → touches false) ∧
        (¬touched → r.target = none → becomes seen [] []) ∧
        (¬touched → ∀ p, r.target = some p →
          (near p → becomes { seen with state := .tracking 0, timeouts := 0 } [] [] ∧
            exec (.seekArrived n raw count) s = exec e s) ∧
          (¬near p → time + 1 < 400 → becomes { seen with state := .seeking (time + 1) } [] [] ∧
            exec (.seekArrived n raw count) s = .next s ∧ exec (.seekTimeout n raw count) s = .next s) ∧
          (¬near p → 400 ≤ time + 1 → r.timeouts = 0 →
            becomes { seen with state := .seeking 0, timeouts := 1 } [] [] ∧ exec (.seekTimeout n raw count) s = exec e s) ∧
          (¬near p → 400 ≤ time + 1 → r.timeouts = 1 →
            becomes { seen with state := .disabled, timeouts := 2 } [.occurrence .motor] [.stripState n 3 6 r.channel r.result] ∧
            exec (.seekTimeout n raw count) s = exec e s))) ∧
      (∀ drift, r.state = .tracking drift →
        (touched → touches false) ∧
        (¬touched → r.target = none → becomes seen [] []) ∧
        (¬touched → ∀ p, r.target = some p →
          (distance conv p ≤ x.drift → becomes { seen with state := .tracking 0 } [] []) ∧
          (x.drift < distance conv p → drift + 1 < 3 → becomes { seen with state := .tracking (drift + 1) } [] []) ∧
          (x.drift < distance conv p → 3 ≤ drift + 1 → touches true))) ∧
      (r.state = .touched none →
        (¬released → becomes seen moves []) ∧
        (released → ∃ v, exec e s = .next (thirdStage (assignmentPass v)) ∧
          holds freed (moves ++ r.channel.toList.map fun c => .releaseEvent c n false) [.touch n r.channel true false rep] v)) ∧
      (∀ still, r.state = .touched (some still) →
        (touched → becomes { seen with state := .touched none } moves []) ∧
        (¬touched → rep ≠ r.reported → becomes { seen with state := .touched (some 0) } moves []) ∧
        (¬touched → rep = r.reported → still + 1 < 250 → becomes { seen with state := .touched (some (still + 1)) } [] [] ∧
          exec (.impliedRelease n raw count) s = .next s) ∧
        (¬touched → rep = r.reported → 250 ≤ still + 1 → ∃ v,
          exec e s = .next (assignmentPass v) ∧ exec (.impliedRelease n raw count) s = exec e s ∧
          holds freed (r.channel.toList.map fun c => .releaseEvent c n false) [.touch n r.channel true true r.reported] v))) ∧
    ∀ q : Strip,
      (∀ time p, q.state = .seeking time → q.target = some p → q.drive = .toward p) ∧
      (∀ drift p, q.state = .tracking drift → q.target = some p → q.drive = .hold p) ∧
      ((∀ c, q.state ≠ .calibrating c) → q.target = none → q.drive = .off) ∧
      ((∃ still, q.state = .touched still) ∨ q.state = .absent ∨ q.state = .unmapped ∨ q.state = .disabled → q.drive = .off)

/-- A scan of a strip measuring in a phase counts the scan and keeps its last 10 raw values. A drive phase ends at the 10th scan
or later when those differ by at most 8, a settle phase at its 100th scan; each change of phase starts both again, and the
end of BOTTOM_SETTLE keeps the new low (log 15). The motor is driven down, off, up and off in the four phases (log 32). At
the end of TOP_SETTLE, travel of 2048 or more writes low and high with OK, less gives CAL_FAIL; 750 scans before the check
give CAL_TIMEOUT. The end writes the result, sets the timeout count to 0 and offers STRIP_STATE; from DISABLED and not OK the
strip is DISABLED, else TRACKING or SEEKING with a channel, UNMAPPED and the pass without; from DISABLED and OK the MOTOR
good event follows when no strip meets the condition. The on run complete aborts it: CAL_ABORTED, and WAIT_RELEASE or
DISABLED. In WAIT_RELEASE the off run complete lets the strip leave in the same way without a report, the third stage then
counting a seek or a drift (log 14), and any other scan only takes its readings and counts nothing (the model's choice, log
43). Log 26 has the corners, log 31 the bus. CALIBRATION_PHASE_END and CALIBRATION_TIMEOUT are the whole scans that do so
(log 4). -/
def Obligations.CalibrationsMeasureTheTravel : Prop :=
  ∀ (n : StripNo) (raw : Fin 4096) (count : Byte) (cal : Calibration) (s : State),
    let e : Instr := .scan n raw count
    let r : Strip := { s.strip n with owed := (s.strip n).owed - 1 }
    let x := s.surface.settings
    let conv := r.convert raw.val
    let rep := if x.hysteresis ≤ distance conv r.reported ∨ conv = 0 ∨ conv = 1023 then conv else r.reported
    let reading := if x.touch ≤ count.toNat then true else if count.toNat ≤ x.release then false else r.reading
    let seen : Strip :=
      { r with
        raw := raw.val, converted := conv, reported := rep, reading := reading
        onRun := if reading then min (r.onRun + 1) x.debounce else 0
        offRun := if reading then 0 else min (r.offRun + 1) x.debounce }
    let touched : Prop := reading = true ∧ x.debounce ≤ r.onRun + 1
    let raws := (cal.raws ++ [raw.val]).drop (cal.raws.length + 1 - 10)
    let steady : Prop := 10 ≤ cal.scans + 1 ∧ ∀ a ∈ raws, ∀ b ∈ raws, a ≤ b + 8
    let counted : Calibration := { cal with total := cal.total + 1, scans := cal.scans + 1, raws := raws }
    let next (p : CalPhase) (low : Nat) : Calibration := { counted with phase := p, scans := 0, raws := [], newLow := low }
    let only (v : State) : Prop := OnlyStrip n s v ∧ KeepsBut [.handed, .reports, .surface] s v ∧
      v.surface = { s.surface with strips := v.surface.strips, bus := s.surface.bus.set n { raw := raw, touch := count } }
    let becomes (q : Strip) : Prop :=
      ∃ t, exec e s = .next t ∧ t.strip n = q ∧ t.handed = s.handed ∧ OfferedEach [] s t ∧ only t
    let near : Bool := r.target.any fun p => distance conv p ≤ 4
    let ends (q : Strip) (res : CalResult) : Prop :=
      (cal.disabledStart = true → res ≠ .ok → ∃ t, exec e s = .next t ∧ only t ∧ t.handed = s.handed ∧
        t.strip n = { q with result := some res, timeouts := 0, state := .disabled } ∧
        OfferedEach [.stripState n 1 6 r.channel (some res)] s t) ∧
      (cal.disabledStart = false → ∃ v, only v ∧ v.handed = s.handed ∧
        (r.channel = none → exec e s = .next (assignmentPass v) ∧
          v.strip n = { q with result := some res, timeouts := 0, state := .unmapped } ∧
          OfferedEach [.stripState n 1 2 none (some res)] s v) ∧
        (r.channel ≠ none → near → exec e s = .next v ∧
          v.strip n = { q with result := some res, timeouts := 0, state := .tracking 0 } ∧
          OfferedEach [.stripState n 1 4 r.channel (some res)] s v) ∧
        (r.channel ≠ none → ¬near → exec e s = .next v ∧
          v.strip n = { q with result := some res, timeouts := 0, state := .seeking 0 } ∧
          OfferedEach [.stripState n 1 3 r.channel (some res)] s v)) ∧
      (cal.disabledStart = true → res = .ok → r.channel ≠ none → ∃ t, exec e s = .next t ∧ only t ∧
        t.strip n = { q with result := some res, timeouts := 0, state := if near then .tracking 0 else .seeking 0 } ∧
        t.handed = s.handed ++ (if motorPresent t.surface then [] else [.goodEvent .motor]) ∧
        (near → OfferedEach [.stripState n 1 4 r.channel (some res)] s t) ∧
        (¬near → OfferedEach [.stripState n 1 3 r.channel (some res)] s t)) ∧
      (cal.disabledStart = true → res = .ok → r.channel = none → ∃ v, only v ∧ v.handed = s.handed ∧
        v.strip n = { q with result := some res, timeouts := 0, state := .unmapped } ∧
        OfferedEach [.stripState n 1 2 none (some res)] s v ∧
        exec e s = .next ((assignmentPass v).hand
          (if motorPresent (assignmentPass v).surface then [] else [.goodEvent .motor])))
    let lasts : Prop := cal.total + 1 < 750
    let after (ended : Prop) (c : Calibration) : Prop :=
      (lasts → becomes { seen with state := .calibrating c } ∧ (ended → exec (.calibrationPhaseEnd n raw count) s = exec e s)) ∧
      (¬lasts → ends seen .timeout ∧ exec (.calibrationTimeout n raw count) s = exec e s)
    let released : Prop := reading = false ∧ x.debounce ≤ r.offRun + 1
    let thirdStage (w : State) : State :=
      let q := w.strip n
      w.setStrip n (match q.state, q.target with
        | .seeking k, some p =>
          if distance conv p ≤ 4 then { q with state := .tracking 0, timeouts := 0 } else { q with state := .seeking (k + 1) }
        | .tracking k, some p =>
          if distance conv p ≤ x.drift then { q with state := .tracking 0 } else { q with state := .tracking (k + 1) }
        | _, _ => q)
    (∀ q : Strip, q.state = .calibrating cal → q.drive = match cal.phase with
      | .bottomDrive => .down
      | .topDrive => .up
      | _ => .off) ∧
    (r.state = .calibrating cal → x.start ≤ n.val → n.val ≤ x.stop → cal.phase = .waitRelease →
      (¬released → becomes seen) ∧
      (released → r.channel ≠ none → ∃ v, exec e s = .next (thirdStage v) ∧ only v ∧ v.handed = s.handed ∧
        v.strip n = { seen with state := if near then .tracking 0 else .seeking 0 } ∧ OfferedEach [] s v) ∧
      (released → r.channel = none → ∃ v, exec e s = .next (thirdStage (assignmentPass v)) ∧ only v ∧ v.handed = s.handed ∧
        v.strip n = { seen with state := .unmapped } ∧ OfferedEach [] s v)) ∧
    (r.state = .calibrating cal → x.start ≤ n.val → n.val ≤ x.stop → cal.phase ≠ .waitRelease → (∀ a ∈ cal.raws, a < 4096) →
      (touched → ∃ t, exec e s = .next t ∧ only t ∧ t.handed = s.handed ∧
        t.strip n = { seen with
          result := some .aborted
          timeouts := 0
          state := if cal.disabledStart then .disabled else .calibrating { phase := .waitRelease } } ∧
        OfferedEach [.stripState n 1 (if cal.disabledStart then 6 else 1) r.channel (some .aborted)] s t) ∧
      (¬touched → cal.phase = .bottomDrive →
        (steady → after True (next .bottomSettle cal.newLow)) ∧ (¬steady → after False counted)) ∧
      (¬touched → cal.phase = .bottomSettle →
        (100 ≤ cal.scans + 1 → after True (next .topDrive raw.val)) ∧ (cal.scans + 1 < 100 → after False counted)) ∧
      (¬touched → cal.phase = .topDrive →
        (steady → after True (next .topSettle cal.newLow)) ∧ (¬steady → after False counted)) ∧
      (¬touched → cal.phase = .topSettle →
        (cal.scans + 1 < 100 → after False counted) ∧
        (100 ≤ cal.scans + 1 → exec (.calibrationPhaseEnd n raw count) s = exec e s ∧
          (cal.newLow + 2048 ≤ raw.val → ends { seen with low := cal.newLow, high := raw.val } .ok) ∧
          (raw.val < cal.newLow + 2048 → ends seen .fail))))

/-- The pass: each strip in range, not TOUCHED, whose channel is not its entry in the active bank gives it up, dark and without a
target, UNMAPPED from SEEKING or TRACKING; then each such strip without a channel takes its entry when no strip holds it,
SEEKING from UNMAPPED; the channels are handed strip released, then strip assigned, in strip order, and every other strip
stands. A bank key press makes its bank active and runs the pass; BANK_SELECT does the same and carries the bank; BANK_MAP
with entries writes them, refused with CONFLICT where the bank would hold a channel twice, and runs the pass where the bank
is active. A bank above 3, an entry above 95 or strips beyond 23 give RANGE and change nothing. -/
def Obligations.BanksBringStripsTheirChannels : Prop :=
  let passes (s t : State) : Prop :=
    let due (n : StripNo) : Option ChanNo := s.surface.banks[s.surface.activeBank][n]
    let free (n : StripNo) : Prop := s.surface.settings.start ≤ n.val ∧ n.val ≤ s.surface.settings.stop ∧
      ∀ i, (s.strip n).state ≠ .touched i
    ∃ gives takes : StripNo → Bool,
      (∀ n, gives n = true ↔ free n ∧ (s.strip n).channel ≠ none ∧ (s.strip n).channel ≠ due n) ∧
      (∀ n, takes n = true ↔ free n ∧ ((s.strip n).channel = none ∨ gives n = true) ∧ due n ≠ none ∧
        ∀ m, (s.strip m).channel = due n → gives m = true) ∧
      (∀ n, t.strip n =
        let r := s.strip n
        let q : Strip := if gives n then
            { r with
              channel := none
              target := none
              lamp := false
              state := match r.state with
                | .seeking _ => .unmapped
                | .tracking _ => .unmapped
                | st => st }
          else r
        if takes n then { q with channel := due n, state := if q.state = .unmapped then .seeking 0 else q.state } else q) ∧
      t.handed = s.handed ++
        ((allStrips.filter gives).flatMap fun n => (s.strip n).channel.toList.map fun c => .stripReleased c n) ++
        ((allStrips.filter takes).flatMap fun n => (due n).toList.map fun c => .stripAssigned c n) ∧
      t.surface = { s.surface with strips := t.surface.strips } ∧ KeepsBut [.handed, .surface] s t
  let distinct (b : Bank) : Prop := ∀ (m n : StripNo) (c : ChanNo), b[m] = some c → b[n] = some c → m = n
  ∀ s : State, (∀ b : BankNo, distinct s.surface.banks[b]) →
    (∀ b : BankNo, ∃ t, exec (.bankKeyPress b) s = .next t ∧ passes { s with surface := { s.surface with activeBank := b } } t) ∧
    ∀ tag : Byte, PortFree s →
      (∀ b : BankNo,
        let e : Instr := .bankSelect tag (.fields b.val)
        ∃ t v, exec e s = .next t ∧ Answered e tag 0x51 .ok [BitVec.ofNat 8 b.val] s t ∧ exec (.bankKeyPress b) s = .next v ∧
          t = { v with port := t.port }) ∧
      (∀ n : Nat, 3 < n → ∃ t, exec (.bankSelect tag (.fields n)) s = .next t ∧
        Answered (.bankSelect tag (.fields n)) tag 0x51 .range [] s t ∧ KeepsBut [.port] s t) ∧
      (∀ (b : BankNo) (first : Nat) (es : List (Option ChanNo)), es ≠ [] → first + es.length ≤ 24 →
        let e : Instr := .bankMap tag (.fields { bank := b.val, write := some (first, es.map (Option.map Fin.val)) })
        ∃ w : Bank, (∀ n : StripNo, w[n] = if first ≤ n.val then (es[n.val - first]?).getD s.surface.banks[b][n]
            else s.surface.banks[b][n]) ∧
          (¬distinct w → ∃ t, exec e s = .next t ∧ Answered e tag 0x50 .conflict [] s t ∧ KeepsBut [.port] s t) ∧
          (distinct w → ∃ t, exec e s = .next t ∧ Answered e tag 0x50 .ok [] s t ∧
            let v : State := { s with surface := { s.surface with banks := s.surface.banks.set b w }, port := t.port }
            (b ≠ s.surface.activeBank → t = v) ∧ (b = s.surface.activeBank → passes v t))) ∧
      ∀ f : BankMapFields, (3 < f.bank ∨ ∃ w ∈ f.write, 23 < w.1 ∨ 24 < w.1 + w.2.length ∨ ∃ x ∈ w.2, ∃ c ∈ x, 95 < c) →
        ∃ t, exec (.bankMap tag (.fields f)) s = .next t ∧ Answered (.bankMap tag (.fields f)) tag 0x50 .range [] s t ∧
          KeepsBut [.port] s t

/-- A motor target for the channel a strip holds is written, a TRACKING strip more than 4 steps away seeking from 0; a lamp event
lights or darkens it; for another channel both are discarded. A mute key of a strip in range hands its channel a mute key
event. STRIP_CALIBRATE of different strips, none ABSENT, TOUCHED or CALIBRATING, starts each in BOTTOM_DRIVE, remembering
DISABLED, and carries their number; else STATE, then BUSY, and RANGE before both for a strip above 23 or named twice, or a
list of none or more than 24. SURFACE_CONFIG writes a fine offset, or the settings with the stop not below the start,
carrying those in force. A strip that leaves the range is ABSENT and holds no channel, target or lamp, owes no scan (the
model's choice, log 31) and keeps its other fields (log 16), its channel handed a release if TOUCHED and strip released, the
MOTOR good event following where due; one that enters starts a calibration; the TOUCH and STRIP_STATE reports come in strip
order; then the pass runs. Values out of range give RANGE. -/
def Obligations.SurfaceEventsAndSettingsAct : Prop :=
  ∀ s : State,
    (∀ (n : StripNo) (c : ChanNo) (p : Position),
      let r := s.strip n
      let u := s.take (.motorTarget n c p)
      (r.channel ≠ some c → exec (.motorTarget n c p) s = .next u) ∧
      (r.channel = some c → (∀ d, r.state = .tracking d → 4 < distance r.converted p →
          exec (.motorTarget n c p) s = .next (u.setStrip n { r with target := some p, state := .seeking 0 })) ∧
        ((∀ d, r.state = .tracking d → distance r.converted p ≤ 4) →
          exec (.motorTarget n c p) s = .next (u.setStrip n { r with target := some p })))) ∧
    (∀ (n : StripNo) (c : ChanNo) (lit : Bool),
      exec (.lampEvent n c lit) s = .next (if (s.strip n).channel = some c
        then (s.take (.lampEvent n c lit)).setStrip n { s.strip n with lamp := lit } else s.take (.lampEvent n c lit))) ∧
    (∀ n : StripNo, exec (.muteKeyPress n) s = .next
      (if s.surface.settings.start ≤ n.val ∧ n.val ≤ s.surface.settings.stop
        then s.hand ((s.strip n).channel.toList.map fun c => .muteKeyEvent c) else s)) ∧
    ∀ tag : Byte, PortFree s →
      (∀ ns : List StripNo, ns ≠ [] → ns.Nodup →
        let e : Instr := .stripCalibrate tag (.fields (ns.map Fin.val))
        let unready (n : StripNo) : Prop := (s.strip n).state = .absent ∨ ∃ i, (s.strip n).state = .touched i
        let busy (n : StripNo) : Prop := ∃ cal, (s.strip n).state = .calibrating cal
        ∃ t, exec e s = .next t ∧
          ((∃ n ∈ ns, unready n) → Answered e tag 0x52 .state [] s t ∧ KeepsBut [.port] s t) ∧
          ((∀ n ∈ ns, ¬unready n) → (∃ n ∈ ns, busy n) → Answered e tag 0x52 .busy [] s t ∧ KeepsBut [.port] s t) ∧
          ((∀ n ∈ ns, ¬unready n ∧ ¬busy n) → Answered e tag 0x52 .ok (bytesOf 1 ns.length) s t ∧ KeepsBut [.port, .surface] s t ∧
            t.surface = { s.surface with strips := t.surface.strips } ∧
            ∀ n, t.strip n = if n ∈ ns
              then { s.strip n with state := .calibrating { disabledStart := (s.strip n).state = .disabled } } else s.strip n)) ∧
      (∀ ns : List Nat, (ns = [] ∨ 24 < ns.length ∨ (∃ n ∈ ns, 23 < n) ∨ ¬ns.Nodup) →
        let e : Instr := .stripCalibrate tag (.fields ns)
        ∃ t, exec e s = .next t ∧ Answered e tag 0x52 .range [] s t ∧ KeepsBut [.port] s t) ∧
      (∀ (n : StripNo) (x : Int), -7 ≤ x → x ≤ 7 →
        let e : Instr := .surfaceConfig tag (.fields (.fineOffset n.val x))
        ∃ t, exec e s = .next t ∧ Answered e tag 0x53 .ok (surfaceBytes s.surface.settings) s t ∧ KeepsBut [.port, .surface] s t ∧
          t.surface = (s.setStrip n { s.strip n with fine := x }).surface) ∧
      (∀ f : SurfaceFields, f.start ≤ 23 → f.stop ≤ 23 → 1 ≤ f.touch → f.touch ≤ 255 → f.release < f.touch → 1 ≤ f.debounce →
        f.debounce ≤ 8 → f.hysteresis ≤ 15 → 5 ≤ f.drift → f.drift ≤ 255 →
        let e : Instr := .surfaceConfig tag (.fields (.settings f))
        let stop := max f.start f.stop
        let x : SurfaceSettings :=
          { start := f.start, stop := stop, touch := f.touch, release := f.release, debounce := f.debounce,
            hysteresis := f.hysteresis, drift := f.drift }
        let old := s.surface.settings
        let was (n : StripNo) : Prop := old.start ≤ n.val ∧ n.val ≤ old.stop
        let is (n : StripNo) : Prop := f.start ≤ n.val ∧ n.val ≤ stop
        ∃ t, exec e s = .next t ∧
          Answered e tag 0x53 .ok (([f.start, stop, f.touch, f.release, f.debounce, f.hysteresis, f.drift]).map (BitVec.ofNat 8)) s t ∧
          t.surface.settings = x ∧ KeepsBut [.port, .handed, .reports, .surface] s t ∧
          (old.start = f.start → old.stop = stop → t.surface = { s.surface with settings := x } ∧ t.handed = s.handed ∧
            OfferedEach [] s t) ∧
          (¬(old.start = f.start ∧ old.stop = stop) → ∃ v w : State, KeepsBut [.port] w t ∧ w = assignmentPass v ∧
            v.surface = { s.surface with settings := x, strips := v.surface.strips } ∧
            (∀ n,
              let r := s.strip n
              (was n → ¬is n → v.strip n =
                { r with state := .absent, channel := none, target := none, lamp := false, owed := 0 }) ∧
              (¬was n → is n → v.strip n = { r with state := .calibrating {} }) ∧
              ((was n ↔ is n) → v.strip n = r)) ∧
            OfferedEach (allStrips.flatMap fun n =>
              let r := s.strip n
              if was n ∧ ¬is n then
                (match r.state, r.channel with
                  | .touched still, some c => [.touch n (some c) true still.isSome r.reported]
                  | _, _ => []) ++ [.stripState n r.state.code 0 none r.result]
              else if ¬was n ∧ is n then [.stripState n r.state.code 1 r.channel r.result] else []) s v ∧
            (v.handed.filter (fun i => i ≠ .goodEvent .motor)) =
              (s.handed.filter (fun i => i ≠ .goodEvent .motor)) ++
                (allStrips.filter (fun n => was n ∧ ¬is n)).flatMap (fun n => (s.strip n).channel.toList.flatMap fun c =>
                  (if (s.strip n).isTouched then [.releaseEvent c n false] else []) ++ [.stripReleased c n]) ∧
            ((∀ n, ¬was n → (s.strip n).motorCondition = false) → v.handed.count (.goodEvent .motor) = s.handed.count (.goodEvent .motor) +
              (if (∃ n, was n ∧ ¬is n ∧ (s.strip n).motorCondition = true) ∧ motorPresent v.surface = false then 1 else 0)))) ∧
      ∀ f : SurfaceConfigFields,
        (∃ n x, f = .fineOffset n x ∧ (23 < n ∨ x < -7 ∨ 7 < x)) ∨ (∃ y, f = .settings y ∧
          (23 < y.start ∨ 23 < y.stop ∨ y.touch = 0 ∨ 255 < y.touch ∨ y.touch ≤ y.release ∨ y.debounce = 0 ∨ 8 < y.debounce ∨
            15 < y.hysteresis ∨ y.drift < 5 ∨ 255 < y.drift)) →
        ∃ t, exec (.surfaceConfig tag (.fields f)) s = .next t ∧
          Answered (.surfaceConfig tag (.fields f)) tag 0x53 .range [] s t ∧ KeepsBut [.port] s t

/-- A clock step of a training link counts its window down; at its end the hello is unanswered: counted, a LINK occurrence
handed, a new hello sent, the window 50. A ready takes a training link to UP: keepalive timer 10, silence 0, a keepalive
sent, every slot queued with its present gain, the LINK good event, LINK_STATE. In UP a step counts timer and silence, sends
a keepalive at timer 0, and at silence 30 loses the link: queue, stale marks, CONGESTED and last-sent empty, counted, an
occurrence, a hello, FAULT where its source is tripped else TRAINING, LINK_STATE. An acknowledgement sets the silence to 0.
OFF does nothing. Source tripped takes TRAINING to FAULT, source cleared FAULT to TRAINING. A good message of the engine is a
ready or an acknowledgement, any other and a gap change nothing. HELLO_UNANSWERED, KEEPALIVE and KEEPALIVE_LOST are the whole
steps at which these happen (log 4); which messages are discarded is read as log 24 says. -/
def Obligations.LinksTrainComeUpAndAreLost : Prop :=
  ∀ (l : LinkNo) (time : Nat) (s : State),
    let e : Instr := .linkClockStep l time
    let next : Prop := e = s.nextStep (.linkClockStep l ·)
    let r := s.link l
    let u := s.take e
    let hello : Outbound := .link l [0xA5, 1, 0, 0x2E, 0x3E]
    let alive : Outbound := .link l (messageBytes 3 [])
    let training (w : Nat) : LinkState := if r.tripped then .fault w else .training w
    let becomes (i : Instr) (v : State) (q : Link) (es : List Instr) (out : List Outbound) (rs : List Report) : Prop :=
      ∃ t, exec i s = .next t ∧ t.link l = q ∧ t.handed = v.handed ++ es ∧ t.sent = s.sent ++ out ∧ OfferedEach rs s t ∧
        OnlyLink l s t ∧ KeepsBut [.handed, .sent, .reports, .links] s t
    let wraps (n : Nat) : Nat := (n + 1) % 4294967296
    (∀ w, (r.state = .training w ∧ r.tripped = false) ∨ (r.state = .fault w ∧ r.tripped = true) →
      (2 ≤ w → becomes e u { r with state := training (w - 1) } [] [] [] ∧ exec (.helloUnanswered l) s = .next s) ∧
      (w ≤ 1 → becomes e u
          { r with state := training 50, hellosUnanswered := wraps r.hellosUnanswered, lastFrame := none }
          [.occurrence (.link l)] [hello] [] ∧
        (next → exec (.helloUnanswered l) s = exec e s)) ∧
      (∃ q : Link, becomes (.ready l) s q [.goodEvent (.link l)] [alive] [.linkState l r.state.code 2 r.mirror] ∧
        q.state = .up 10 0 ∧ q.lastFrame = none ∧
        q = { r with
          state := q.state, lastFrame := none, queue := q.queue, congested := q.congested, stale := q.stale } ∧
        (r.queue = [] → r.stale = [] → 1 ≤ r.high → r.high ≤ 64 →
          q.queue = (allSlots.map fun slot => (slot, slotGain s l slot)) ∧ q.congested = true ∧ q.stale = [])) ∧
      exec (.keepaliveAcknowledgement l) s = .next s ∧ exec (.keepalive l) s = .next s ∧ exec (.keepaliveLost l) s = .next s) ∧
    (∀ k silence, r.state = .up k silence →
      let out := if k ≤ 1 then [alive] else []
      (silence + 1 < 30 → becomes e u { r with state := .up (if k ≤ 1 then 10 else k - 1) (silence + 1) } [] out [] ∧
        exec (.keepaliveLost l) s = .next s) ∧
      (30 ≤ silence + 1 → becomes e u
          { r with
            state := training 50, queue := [], congested := false, stale := [], lastSent := Vector.replicate 64 none
            keepaliveLosses := wraps r.keepaliveLosses, lastFrame := none }
          [.occurrence (.link l)] (out ++ [hello]) [.linkState l 2 (training 50).code r.mirror] ∧
        (next → exec (.keepaliveLost l) s = exec e s)) ∧
      (k ≤ 1 → next → exec (.keepalive l) s = exec e s) ∧ (2 ≤ k → exec (.keepalive l) s = .next s) ∧
      exec (.keepaliveAcknowledgement l) s = .next (s.setLink l { r with state := .up k 0 }) ∧ exec (.ready l) s = .next s ∧
      exec (.helloUnanswered l) s = .next s) ∧
    (r.state = .off → exec e s = .next u ∧ exec (.ready l) s = .next s ∧ exec (.keepaliveAcknowledgement l) s = .next s) ∧
    ((∀ w, r.state = .training w → becomes (.sourceTripped l) (s.take (.sourceTripped l)) { r with state := .fault w, tripped := true } [] []
        [.linkState l 1 3 r.mirror]) ∧
      ((∀ w, r.state ≠ .training w) → becomes (.sourceTripped l) (s.take (.sourceTripped l)) { r with tripped := true } [] [] [])) ∧
    ((∀ w, r.state = .fault w → becomes (.sourceCleared l) (s.take (.sourceCleared l)) { r with state := .training w, tripped := false } [] []
        [.linkState l 3 1 r.mirror]) ∧
      ((∀ w, r.state ≠ .fault w) → becomes (.sourceCleared l) (s.take (.sourceCleared l)) { r with tripped := false } [] [] [])) ∧
    exec (.linkMessageDiscard l (messageBytes 2 [])) s = exec (.ready l) s ∧
    exec (.linkMessageDiscard l (messageBytes 4 [])) s = exec (.keepaliveAcknowledgement l) s ∧
    (∀ m, m ≠ messageBytes 2 [] → m ≠ messageBytes 4 [] → exec (.linkMessageDiscard l m) s = .next s) ∧
    exec (.linkMessageGap l) s = .next s

/-- At an UP link an output gain changed event goes to each slot whose effective source is the channel, in slot order: a queued
slot's entry is replaced; else, when the link is not CONGESTED, or the slot was never sent, the new or last-sent value is
OFF, they differ by the decimation step, or the event is settled, it is appended and its stale mark cleared; else the slot is
stale. A channel settled event appends the stale ones. An append that brings the queue to the high water mark makes the link
CONGESTED. UPDATE_FRAME at an internal time, to which time passes (log 9), sends up to 8 of the oldest entries when 250 us
have passed since the link's last frame or none was sent since UP, keeps them as last-sent, counts them and keeps the time;
the message is A5h, 05h, the entry count, for each entry the slot and the gain in 2 bytes (8000h for OFF, else two's
complement, high byte first), and the CRC of what follows A5h; a CONGESTED link brought to the low water mark leaves
CONGESTED and enqueues every stale slot with its source's present gain. A link not UP, or with nothing to send, does nothing. -/
def Obligations.LinkQueuesCoalesceDecimateAndDrain : Prop :=
  (∀ (q : Link) (slot : Slot) (v : Gain),
    ((∃ g, (slot, g) ∈ q.queue) → q.enqueue slot v = { q with
      queue := q.queue.map fun e => if e.1 = slot then (slot, v) else e
      stale := q.stale.filter fun x => x ≠ slot }) ∧
    ((∀ g, (slot, g) ∉ q.queue) → q.enqueue slot v = { q with
      queue := q.queue ++ [(slot, v)]
      stale := q.stale.filter fun x => x ≠ slot
      congested := q.congested || decide (q.high ≤ q.queue.length + 1) })) ∧
  ∀ (l : LinkNo) (s : State),
    let r := s.link l
    let map : SlotMap := match r.mirror with
      | some m => (s.link m).ownMap
      | none => r.ownMap
    let gain (slot : Slot) : Gain := match map[slot] with
      | some c => (s.channel c).output
      | none => .off
    let number (g : Gain) : Int := match g with | .off => -900 | .tenths x => x
    (∀ slot, slotGain s l slot = gain slot) ∧
    (∀ (c : ChanNo) (o : Gain) (settled : Bool),
      let e : Instr := .outputGainChanged l c o settled
      (r.isUp = false → exec e s = .next (s.take e)) ∧
      (r.isUp = true → ∃ act : Link → Slot → Link,
        (∀ (q : Link) (slot : Slot),
          let sends : Prop := q.congested = false ∨ q.lastSent[slot] = none ∨ o = .off ∨ q.lastSent[slot] = some .off ∨
            settled = true ∨ ∀ last ∈ q.lastSent[slot], q.step ≤ (number o - number last).natAbs
          ((∃ g, (slot, g) ∈ q.queue) →
            act q slot = { q with queue := q.queue.map fun e => if e.1 = slot then (slot, o) else e }) ∧
          ((∀ g, (slot, g) ∉ q.queue) → sends → act q slot = q.enqueue slot o) ∧
          ((∀ g, (slot, g) ∉ q.queue) → ¬sends →
            act q slot = { q with stale := allSlots.filter fun x => x = slot ∨ x ∈ q.stale })) ∧
        exec e s = .next ((s.take e).setLink l ((allSlots.filter fun slot => map[slot] = some c).foldl act r)))) ∧
    (∀ (c : ChanNo) (o : Gain),
      let e : Instr := .channelSettled l c o
      (r.isUp = false → exec e s = .next (s.take e)) ∧
      (r.isUp = true → (∀ slot ∈ r.stale, ∀ g, (slot, g) ∉ r.queue) → exec e s = .next ((s.take e).setLink l
        ((allSlots.filter fun slot => map[slot] = some c ∧ slot ∈ r.stale).foldl (fun q slot => q.enqueue slot o) r)))) ∧
    ∀ time : Nat,
      let e : Instr := .updateFrame l time
      let now := max s.clock.now time
      let waits : Prop := ∃ last, r.lastFrame = some last ∧ now < last + 250
      let v := passTime (time - s.clock.now) s
      let es := r.queue.take 8
      let sent : Link := { r with
        queue := r.queue.drop 8
        lastSent := es.foldl (fun v x => v.set x.1 (some x.2)) r.lastSent
        framesSent := (r.framesSent + 1) % 4294967296
        entriesSent := (r.entriesSent + es.length) % 4294967296
        lastFrame := some now }
      let gainCode (g : Gain) : List Byte := match g with
        | .off => [0x80, 0x00]
        | .tenths x => let w : Nat := (x % 65536).toNat; [BitVec.ofNat 8 (w / 256), BitVec.ofNat 8 w]
      let body : List Byte :=
        [0x05, BitVec.ofNat 8 es.length] ++ es.flatMap fun x => BitVec.ofNat 8 x.1.val :: gainCode x.2
      (r.isUp = false ∨ r.queue = [] ∨ waits → exec e s = .next s) ∧
      (r.isUp = true → r.queue ≠ [] → ¬waits → v.clock.now = now ∧ KeepsBut [.handed, .reports, .clock] s v ∧
        exec e s = .next ((v.setLink l
          (if r.congested ∧ sent.queue.length ≤ r.low
            then r.stale.foldl (fun q slot => q.enqueue slot (gain slot)) { sent with congested := false }
            else sent)).emit (.link l (0xA5 :: (body ++ crcBytes body)))))

/-- SLOT_MAP with entries writes them into the own map, carries how many changed, and enqueues each changed slot, with its new
source's present gain, at each UP link whose effective map this is. LINK_CONFIG with settings in their ranges writes all five
and carries those in force. Enable off takes a link to OFF, its queue, marks and last-sent emptied; enable on makes an OFF
link train with a hello, in FAULT where its source is tripped; both offer LINK_STATE. At an UP link new water marks act at
once, leaving CONGESTED with the flush or entering it, and a new mirror source then enqueues every slot, 0 to 63 in turn,
with the present gain of its new source (the marks first: the model's choice, log 33). A mirror source that is the link
itself, a mirror, or would make a mirror of a mirrored link gives CONFLICT; values out of range, a map entry above 95 among
them, or a high mark not above the low, RANGE; nothing changes then. -/
def Obligations.LinkRequestsTakeEffect : Prop :=
  ∀ (tag : Byte) (l : LinkNo) (s : State), PortFree s →
    let r := s.link l
    (∀ (first : Nat) (es : List (Option ChanNo)), es ≠ [] → first + es.length ≤ 64 →
      let e : Instr := .slotMap tag (.fields
        { link := l.val, first := first, count := es.length, entries := some (es.map (Option.map Fin.val)) })
      ∃ t w, exec e s = .next t ∧
        (∀ slot : Slot, w[slot] = if first ≤ slot.val then (es[slot.val - first]?).getD r.ownMap[slot] else r.ownMap[slot]) ∧
        (let changed := allSlots.filter fun slot => w[slot] ≠ r.ownMap[slot];
          let written (k : LinkNo) : Link := if k = l then { s.link k with ownMap := w } else s.link k;
          Answered e tag 0x60 .ok (bytesOf 1 changed.length) s t ∧
          ∀ k, t.link k = if (s.link k).isUp ∧ ((s.link k).mirror = some l ∨ (k = l ∧ (s.link k).mirror = none))
            then changed.foldl (fun q slot => q.enqueue slot (match w[slot] with
              | some c => (s.channel c).output
              | none => .off)) (written k)
            else written k) ∧
        KeepsBut [.port, .links] s t) ∧
    (∀ (on : Bool) (high low step : Nat) (m : Option LinkNo), 2 ≤ high → high ≤ 64 → low < high → 1 ≤ step → step ≤ 100 →
      let e : Instr := .linkConfig tag (.fields { link := l.val, settings := some ⟨if on then 1 else 0, high, low, step, m.map Fin.val⟩ })
      let q : Link := { r with enable := on, high := high, low := low, step := step, mirror := m }
      let barred : Prop := ∃ k ∈ m, k = l ∨ (s.link k).mirror ≠ none ∨ ∃ j, (s.link j).mirror = some l
      (barred → ∃ t, exec e s = .next t ∧ Answered e tag 0x61 .conflict [] s t ∧ KeepsBut [.port] s t) ∧
      (¬barred → ∃ t, exec e s = .next t ∧
        Answered e tag 0x61 .ok (([if on then 1 else 0, high, low, step, (m.map Fin.val).getD 255]).map (BitVec.ofNat 8)) s t ∧
        t.handed = s.handed ∧ OnlyLink l s t ∧ KeepsBut [.port, .sent, .reports, .links] s t ∧
        (r.enable = true → on = false → r.state ≠ .off →
          t.link l = { q with
            state := .off, queue := [], congested := false, stale := [], lastSent := Vector.replicate 64 none
            lastFrame := none } ∧
          t.sent = s.sent ∧ OfferedEach [.linkState l r.state.code 0 m] s t) ∧
        (r.enable = false → on = true → r.state = .off →
          t.link l = { q with state := if r.tripped then .fault 50 else .training 50, lastFrame := none } ∧
          t.sent = s.sent ++ [.link l [0xA5, 1, 0, 0x2E, 0x3E]] ∧
          OfferedEach [.linkState l 0 (if r.tripped then 3 else 1) m] s t) ∧
        (r.enable = on → r.isUp = false → t.link l = q ∧ t.sent = s.sent ∧ OfferedEach [] s t) ∧
        (r.enable = on → r.isUp = true → t.sent = s.sent ∧ OfferedEach [] s t ∧
          let map : SlotMap := match m with
            | some k => (s.link k).ownMap
            | none => r.ownMap
          let gain (slot : Slot) : Gain := match map[slot] with
            | some c => (s.channel c).output
            | none => .off
          let enqueued (q : Link) (slots : List Slot) : Link := slots.foldl (fun q slot => q.enqueue slot (gain slot)) q
          let marked : Link :=
            if r.congested ∧ r.queue.length ≤ low then enqueued { q with congested := false } r.stale
            else if r.congested = false ∧ high ≤ r.queue.length then { q with congested := true } else q
          t.link l = if r.mirror = m then marked else enqueued marked allSlots))) ∧
    (∀ f : SlotMapFields, (3 < f.link ∨ f.count = 0 ∨ 64 < f.first + f.count ∨
        ∃ es ∈ f.entries, es.length = f.count ∧ ∃ x ∈ es, ∃ n ∈ x, 95 < n) →
      ∃ t, exec (.slotMap tag (.fields f)) s = .next t ∧ Answered (.slotMap tag (.fields f)) tag 0x60 .range [] s t ∧
        KeepsBut [.port] s t) ∧
    ∀ f : LinkConfigFields, (3 < f.link ∨ ∃ x ∈ f.settings, 1 < x.enable ∨ x.high < 2 ∨ 64 < x.high ∨ x.high ≤ x.low ∨
        x.step = 0 ∨ 100 < x.step ∨ ∃ m ∈ x.mirror, 3 < m) →
      ∃ t, exec (.linkConfig tag (.fields f)) s = .next t ∧ Answered (.linkConfig tag (.fields f)) tag 0x61 .range [] s t ∧
        KeepsBut [.port] s t

/-- An occurrence sets the sticky flag and makes the count 1 in CLEAR, one more otherwise, 255 at most. In TRIPPED nothing else
happens; below the trip count the source is COUNTING. At the trip count it is TRIPPED: a LINK source hands source tripped to
its link, a FAULT report is offered unless masked, carrying the count, the action and the effective action, and the effective
action becomes the most severe action of the tripped sources, NONE with none; where it changes, the sequencer and then every
channel are handed it (in the model's order, log 5). FAULT_TEST is such an occurrence and carries state, count and effective
action. A good event returns a COUNTING source to CLEAR with count 0 and changes no other. Every other source stands. -/
def Obligations.OccurrencesCountAndTrip : Prop :=
  ∀ (src : Source) (s : State),
    let r := s.source src
    let n := if r.state = .clear then 1 else min (r.count + 1) 255
    let records (q : SourceRecord) (t : State) : Prop := t.source src = q ∧ ∀ x, x ≠ src → t.source x = s.source x
    let mostSevere (t : State) : Prop :=
      (∀ x, (t.source x).state = .tripped → severity (t.source x).action ≤ severity t.faults.effective) ∧
        (t.faults.effective = .none ∨ ∃ x, (t.source x).state = .tripped ∧ (t.source x).action = t.faults.effective)
    let told (t : State) : List Instr :=
      if t.faults.effective = s.faults.effective then []
      else .effectiveActionAtSequencer t.faults.effective :: allChannels.map fun c => .effectiveActionChanged c t.faults.effective
    let tripped : List Instr := match src with
      | .link l => [.sourceTripped l]
      | _ => []
    let occurs (u t : State) : Prop :=
      (r.state = .tripped → records { r with sticky := true, count := n } t ∧ t.faults.effective = s.faults.effective ∧
        t.handed = u.handed ∧ OfferedEach [] s t) ∧
      (r.state ≠ .tripped → n < r.trip → records { r with sticky := true, count := n, state := .counting } t ∧
        t.faults.effective = s.faults.effective ∧ t.handed = u.handed ∧ OfferedEach [] s t) ∧
      (r.state ≠ .tripped → r.trip ≤ n → records { r with sticky := true, count := n, state := .tripped } t ∧ mostSevere t ∧
        t.handed = u.handed ++ tripped ++ told t ∧
        OfferedEach (if r.masked then [] else [.fault src false n r.action t.faults.effective]) s t)
    (∃ t, exec (.occurrence src) s = .next t ∧ occurs (s.take (.occurrence src)) t ∧ KeepsBut [.handed, .reports, .faults] s t) ∧
    (r.state = .counting → ∃ t, exec (.goodEvent src) s = .next t ∧ records { r with state := .clear, count := 0 } t ∧
      t.faults.effective = s.faults.effective ∧ t.handed = (s.take (.goodEvent src)).handed ∧ KeepsBut [.handed, .faults] s t) ∧
    (r.state ≠ .counting → exec (.goodEvent src) s = .next (s.take (.goodEvent src))) ∧
    ∀ tag : Byte, PortFree s →
      (let c : Instr := .faultTest tag (.fields (sourceCode src));
       ∃ t, exec c s = .next t ∧ occurs s t ∧ KeepsBut [.port, .handed, .reports, .faults] s t ∧
        Answered c tag 0x7A .ok (([(t.source src).state.code, n, actionCode t.faults.effective]).map (BitVec.ofNat 8)) s t) ∧
      ∀ k : Nat, 8 < k → ∃ t, exec (.faultTest tag (.fields k)) s = .next t ∧
        Answered (.faultTest tag (.fields k)) tag 0x7A .range [] s t ∧ KeepsBut [.port] s t

/-- FAULT_CLEAR leaves a CLEAR source, returns a COUNTING one to CLEAR, and of a TRIPPED one is refused with STILL_PRESENT while
the condition is present (a link not UP, the clock LOST, a strip DISABLED or calibrating from it; WATCHDOG, FRAME and
OVERFLOW have none), else makes it CLEAR with count 0: a LINK source hands source cleared, a FAULT report is offered unless
masked, with the count before, and the effective action is worked out again. It carries state and effective action. A changed
effective action is handed to the sequencer and then to every channel (log 5). FAULT_CONFIG writes action, trip count and
mask: a TRIPPED source's new action enters the effective action, a COUNTING source at the new trip count trips under the new
mask and action (log 30), a CLEAR one stands; it carries the five fields. Values out of range give RANGE, a source above 8 in
either request, and an action above 3: the actions are coded 0 to 3 by their place in the list, NONE too (the model's choice,
log 34). -/
def Obligations.FaultsAreClearedAndConfigured : Prop :=
  ∀ (src : Source) (tag : Byte) (s : State), PortFree s →
    let r := s.source src
    let records (q : SourceRecord) (t : State) : Prop := t.source src = q ∧ ∀ x, x ≠ src → t.source x = s.source x
    let mostSevere (t : State) : Prop :=
      (∀ x, (t.source x).state = .tripped → severity (t.source x).action ≤ severity t.faults.effective) ∧
        (t.faults.effective = .none ∨ ∃ x, (t.source x).state = .tripped ∧ (t.source x).action = t.faults.effective)
    let told (t : State) : List Instr :=
      if t.faults.effective = s.faults.effective then []
      else .effectiveActionAtSequencer t.faults.effective :: allChannels.map fun c => .effectiveActionChanged c t.faults.effective
    let linked (tripped : Bool) : List Instr := match src with
      | .link l => [if tripped then .sourceTripped l else .sourceCleared l]
      | _ => []
    let still (q : SourceRecord) (t : State) : Prop :=
      records q t ∧ t.faults.effective = s.faults.effective ∧ t.handed = s.handed ∧ OfferedEach [] s t
    let present : Prop := match src with
      | .link l => (s.link l).isUp = false
      | .clock => s.clock.lock = .lost
      | .motor => ∃ n, (s.strip n).state = .disabled ∨ ∃ cal, (s.strip n).state = .calibrating cal ∧ cal.disabledStart = true
      | _ => False
    (let c : Instr := .faultClear tag (.fields (sourceCode src));
     (∀ n, 8 < n → ∃ t, exec (.faultClear tag (.fields n)) s = .next t ∧
      Answered (.faultClear tag (.fields n)) tag 0x79 .range [] s t ∧ KeepsBut [.port] s t) ∧
     (r.state = .tripped → present → ∃ t, exec c s = .next t ∧ Answered c tag 0x79 .stillPresent [] s t ∧ KeepsBut [.port] s t) ∧
     ((r.state = .tripped → ¬present) → ∃ t, exec c s = .next t ∧ KeepsBut [.port, .handed, .reports, .faults] s t ∧
      Answered c tag 0x79 .ok (([(t.source src).state.code, actionCode t.faults.effective]).map (BitVec.ofNat 8)) s t ∧
      (r.state = .clear → still r t) ∧
      (r.state = .counting → still { r with state := .clear, count := 0 } t) ∧
      (r.state = .tripped → records { r with state := .clear, count := 0 } t ∧ mostSevere t ∧
        t.handed = s.handed ++ linked false ++ told t ∧
        OfferedEach (if r.masked then [] else [.fault src true r.count r.action t.faults.effective]) s t))) ∧
    (∀ (a : Action) (n : Nat) (masked : Bool), 1 ≤ n → n ≤ 8 →
      let c : Instr := .faultConfig tag (.fields { source := sourceCode src, settings := some ⟨actionCode a, n, if masked then 1 else 0⟩ })
      let q : SourceRecord := { r with action := a, trip := n, masked := masked }
      ∃ t, exec c s = .next t ∧ KeepsBut [.port, .handed, .reports, .faults] s t ∧
        Answered c tag 0x78 .ok (([actionCode a, n, if masked then 1 else 0, (t.source src).state.code, r.count]).map
          (BitVec.ofNat 8)) s t ∧
        (r.state = .clear ∨ (r.state = .counting ∧ r.count < n) → still q t) ∧
        (r.state = .counting → n ≤ r.count → records { q with state := .tripped } t ∧ mostSevere t ∧
          t.handed = s.handed ++ linked true ++ told t ∧
          OfferedEach (if masked then [] else [.fault src false r.count a t.faults.effective]) s t) ∧
        (r.state = .tripped → records q t ∧ mostSevere t ∧ t.handed = s.handed ++ told t ∧ OfferedEach [] s t)) ∧
    ∀ f : FaultConfigFields, (8 < f.source ∨ ∃ x ∈ f.settings, 3 < x.action ∨ x.trip = 0 ∨ 8 < x.trip ∨ 1 < x.mask) →
      ∃ t, exec (.faultConfig tag (.fields f)) s = .next t ∧ Answered (.faultConfig tag (.fields f)) tag 0x78 .range [] s t ∧
        KeepsBut [.port] s t

/-- Whenever commands wait, one step answers exactly what exec answers on the first of them, in the state whose queue holds the
rest. -/
def Obligations.StepRunsTheFrontCommand : Prop :=
  ∀ (c : Instr) (rest : List Instr) (s : State), s.pending = c :: rest → step s = exec c { s with pending := rest }

/-- The manual leaves open when the part does what it does of itself; this order is the model's choice (log 2). With no command
waiting, a step takes the oldest event one block has handed to another. With none in flight, a clock step whose interval has
ended comes; with none due, the lowest strip of which a scan is due is scanned with the readings that stand on the bus (log
31); with none due, the lowest link of which an update frame is due at the present internal time sends it (log 9); with none
due, a RESET whose reply has left the line takes effect; else the head of the inbound queue is executed when the reply buffer
is empty and no RESET waits; else the frame on the line ends; else an idle transmitter takes a reply frame, or a report when
there is no reply; with nothing to do at all the step changes nothing. -/
def Obligations.IdlePartTakesEventsThenRequestsThenFrames : Prop :=
  ∀ s : State, s.pending = [] →
    (∀ e es, s.handed = e :: es → step s = exec e s) ∧
    (s.handed = [] →
      let scans (n : StripNo) : Bool := decide (s.surface.settings.start ≤ n.val ∧ n.val ≤ s.surface.settings.stop ∧
        (s.strip n).state ≠ .absent ∧ 0 < (s.strip n).owed)
      let frames (l : LinkNo) : Bool := (s.link l).isUp && !(s.link l).queue.isEmpty &&
        ((s.link l).lastFrame = none || (s.link l).lastFrame.any fun last => decide (last + 250 ≤ s.clock.now))
      (s.clock.due ≠ 0 → step s = exec .clockStep s) ∧
      (s.clock.due = 0 → ∀ n, scans n = true → (∀ m, m < n → scans m = false) →
        step s = exec (.scan n s.surface.bus[n].raw s.surface.bus[n].touch) s) ∧
      (s.clock.due = 0 → (∀ n, scans n = false) → ∀ l, frames l = true → (∀ k, k < l → frames k = false) →
        step s = exec (.updateFrame l s.clock.now) s) ∧
      (s.clock.due = 0 → (∀ n, scans n = false) → (∀ l, frames l = false) →
      (s.port.resetWaiting ≠ none → s.port.reply = none → s.port.sending ≠ some .reply → step s = exec .resetTakesEffect s) ∧
      (s.port.resetWaiting = none → s.port.reply = none → ∀ r rest, s.port.inbound = r :: rest →
        step s = exec (commandOf r) s) ∧
      (s.port.sending ≠ none → (s.port.reply ≠ none ∨ (s.port.resetWaiting = none ∧ s.port.inbound = []) ∨
        (s.port.resetWaiting ≠ none ∧ s.port.sending = some .reply)) → step s = exec .frameSent s) ∧
      (s.port.sending = none → s.port.reply ≠ none → step s = exec .replyFrame s) ∧
      (s.port.sending = none → s.port.reply = none → s.port.resetWaiting = none → s.port.inbound = [] →
        (s.port.reports ≠ [] → step s = exec .reportFrame s) ∧ (s.port.reports = [] → step s = .next s))))

/-- When the port is free, executing the request at the head of the inbound queue answers a next state in which exactly that
request has left the queue and the reply buffer holds a reply with its TAG and CODE, whose PORT_BUSY flag says whether 6 or
more requests remain. A refused reply carries no payload, and a refused request, whatever its status, changes nothing else
anywhere. Every request code and every payload is covered. Every request row whose payload has a wrong length is answered
with BAD_LENGTH, whatever the state, and so is every request whose rule gives its payload one length, or two or three, that
carries another (the rows whose length depends on what they carry, by a count or a presence byte, are not in this clause). A
request is the command UNKNOWN exactly when its CODE is none of the request codes of section 12.9; a report code is none of
them; UNKNOWN is answered with the status UNKNOWN and an empty payload, and changes nothing else. (With a request code the
row UNKNOWN is no event, as the model chooses: it changes nothing, DESIGN CHOICE, log 40.) -/
def Obligations.EveryRequestIsAnswered : Prop :=
  (∀ (r : Request) (rest : List Request) (s : State), PortFree s → s.port.inbound = r :: rest →
    ∃ t rep, exec (commandOf r) s = .next t ∧ t.port.reply = some rep ∧ t.port.inbound = rest ∧ rep.tag = r.tag ∧
      rep.code = r.code ∧ rep.busy = decide (6 ≤ rest.length) ∧ rep.next = 0 ∧
      (rep.status ≠ .ok → rep.payload = [] ∧ t = { s with port := { s.port with inbound := rest, reply := some rep } })) ∧
  (∀ (tag : Byte) (s : State), PortFree s → ∀ p ∈ [
      (Instr.ident tag .wrongLength, (0x01 : Byte)), (.heartbeat tag .wrongLength, 0x02), (.status tag .wrongLength, 0x03),
      (.resetPlayback tag .wrongLength, 0x04), (.resetSurface tag .wrongLength, 0x04), (.resetLinks tag .wrongLength, 0x04),
      (.resetAll tag .wrongLength, 0x04), (.reportMode tag .wrongLength, 0x05), (.watchSet tag .wrongLength, 0x06),
      (.heartbeatConfig tag .wrongLength, 0x07), (.cueLoad tag .wrongLength, 0x10), (.cueDelete tag .wrongLength, 0x11),
      (.cueRead tag .wrongLength, 0x12), (.listClear tag .wrongLength, 0x13), (.listInfo tag .wrongLength, 0x14),
      (.go tag .wrongLength, 0x20), (.back tag .wrongLength, 0x21), (.goto tag .wrongLength, 0x22),
      (.gotoFire tag .wrongLength, 0x22), (.hold tag .wrongLength, 0x23), (.resume tag .wrongLength, 0x24),
      (.stop tag .wrongLength, 0x25), (.scheduleAdd tag .wrongLength, 0x26), (.scheduleCancel tag .wrongLength, 0x27),
      (.playbackRead tag .wrongLength, 0x28), (.playbackConfig tag .wrongLength, 0x29), (.chanSet tag .wrongLength, 0x30),
      (.chanConfig tag .wrongLength, 0x31), (.chanRead tag .wrongLength, 0x32), (.muteSet tag .wrongLength, 0x33),
      (.chanRelease tag .wrongLength, 0x34), (.levelConfig tag .wrongLength, 0x35), (.trimSet tag .wrongLength, 0x38),
      (.trimRotate tag .wrongLength, 0x39), (.trimClear tag .wrongLength, 0x3A), (.trimRead tag .wrongLength, 0x3B),
      (.groupMembers tag .wrongLength, 0x40), (.groupSet tag .wrongLength, 0x41), (.groupMute tag .wrongLength, 0x42),
      (.groupRead tag .wrongLength, 0x43), (.bankMap tag .wrongLength, 0x50), (.bankSelect tag .wrongLength, 0x51),
      (.stripCalibrate tag .wrongLength, 0x52), (.surfaceConfig tag .wrongLength, 0x53),
      (.stripRead tag .wrongLength, 0x54), (.slotMap tag .wrongLength, 0x60), (.linkConfig tag .wrongLength, 0x61),
      (.linkRead tag .wrongLength, 0x62), (.clockConfig tag .wrongLength, 0x70), (.clockSet tag .wrongLength, 0x71),
      (.clockRead tag .wrongLength, 0x72), (.faultConfig tag .wrongLength, 0x78), (.faultClear tag .wrongLength, 0x79),
      (.faultTest tag .wrongLength, 0x7A), (.faultRead tag .wrongLength, 0x7B)],
    ∃ t, exec p.1 s = .next t ∧ Answered p.1 tag p.2 .badLength [] s t ∧ KeepsBut [.port] s t) ∧
  (∀ (r : Request) (s : State), PortFree s → (∃ x ∈ [
        ((0x01 : Byte), [0]), (0x02, [0]), (0x03, [0]), (0x04, [1]), (0x05, [0, 10]), (0x06, [0, 4]), (0x07, [0, 5]), (0x11,
        [3]), (0x12, [5]), (0x13, [0]), (0x14, [0]), (0x21, [0]), (0x22, [4]), (0x23, [0]), (0x24, [0]), (0x25, [0]), (0x26,
        [7]), (0x27, [3]), (0x28, [0]), (0x29, [0, 3]), (0x32, [2]), (0x35, [0, 6]), (0x39, [0]), (0x3A, [1]), (0x3B, [2]),
        (0x41, [7]), (0x43, [1, 2]), (0x51, [1]), (0x53, [0, 2, 7]), (0x54, [2]), (0x61, [1, 6]), (0x62, [1]), (0x78, [1, 4]), (0x70, [0, 2]), (0x71, [4]), (0x72, [0]), (0x79, [1]), (0x7A,
        [1]), (0x7B, [0])],
      r.code = x.1 ∧ r.payload.length ∉ x.2) →
    ∃ t, exec (commandOf r) s = .next t ∧ Answered (commandOf r) r.tag r.code .badLength [] s t ∧ KeepsBut [.port] s t) ∧
  (∀ r : Request, commandOf r = .unknown r.tag r.code ↔ r.code ∉ Config.requestCodes) ∧
  (∀ k : ReportKind, BitVec.ofNat 8 (reportCode k) ∉ Config.requestCodes) ∧
  ∀ (tag code : Byte) (s : State),
    (PortFree s → code ∉ Config.requestCodes → ∃ t, exec (.unknown tag code) s = .next t ∧ Answered (.unknown tag code) tag code .unknown [] s t ∧ KeepsBut [.port] s t) ∧
    (code ∈ Config.requestCodes → exec (.unknown tag code) s = .next s)

/-- In HUNT the byte A5h begins a frame, any other byte is skipped, and a line error changes nothing. In FRAME a line error, a
gap of 5 ms, a LEN byte above 250, and a completing byte whose CRC differs or whose KIND is not 1 each drop the partial
frame: the receiver returns to HUNT, FRAME_ERROR is set, one FRAME occurrence is handed, and nothing else changes. `got` are
the bytes received after the sync byte. -/
def Obligations.ReceiverHuntsAndDiscards : Prop :=
  ∀ s : State,
    (s.port.receiver = .hunt →
      exec (.byteReceived 0xA5) s = .next (s.setPort { s.port with receiver := .frame [] }) ∧
      (∀ b, b ≠ 0xA5 → exec (.byteReceived b) s = .next s) ∧ exec .lineError s = .next s) ∧
    ∀ got, s.port.receiver = .frame got →
      let dropped : State :=
        { s with
          port := { s.port with receiver := .hunt, flags := { s.port.flags with frameError := true } }
          handed := s.handed ++ [.occurrence .frame] }
      exec .lineError s = .next dropped ∧ exec .receiveGap s = .next dropped ∧
      (got = [] → ∀ b : Byte, 250 < b.toNat → exec (.frameLenInvalid b) s = .next dropped) ∧
      (∀ (len kind tag code status : Byte) (payload : List Byte) (crc : Byte) (b : Byte), len.toNat = payload.length →
        payload.length ≤ 250 → got = [len, kind, tag, code, status] ++ payload ++ [crc] →
        ([crc, b] ≠ crcBytes ([kind, tag, code, status] ++ payload) ∨ kind ≠ 1) →
        exec (.frameReceived b) s = .next dropped)

/-- For every TAG, CODE, STATUS and payload of up to 250 bytes, receiving the bytes of that frame of KIND 1, its CRC included,
one after the other leaves the receiver in HUNT and hands the FRAME good event. Where fewer than 8 requests wait, the request
with this TAG, CODE and payload stands last in the inbound queue; where 8 wait it is dropped and OVERRUN is set. Nothing else
changes; the STATUS byte is ignored. -/
def Obligations.GoodFramesAreQueued : Prop :=
  ∀ (tag code status : Byte) (payload : List Byte) (s : State), s.port.receiver = .hunt → payload.length ≤ 250 →
    ∀ (front : List Byte) (last : Byte), frameBytes 1 tag code status payload = front ++ [last] →
    ∃ t, run (front.map .byteReceived ++ [.frameReceived last]) s = some t ∧
      t.port.receiver = .hunt ∧ t.handed = s.handed ++ [.goodEvent .frame] ∧
      (s.port.inbound.length < 8 →
        t.port = { s.port with inbound := s.port.inbound ++ [{ tag := tag, code := code, payload := payload }] }) ∧
      (8 ≤ s.port.inbound.length → t.port = { s.port with flags := { s.port.flags with overrun := true } }) ∧
      KeepsBut [.handed, .port] s t

/-- With the transmitter idle, REPLY_FRAME puts the next frame of the reply on the line, with KIND 2 and the reply's TAG and
CODE, and the reply buffer is empty once that frame is the last. REPORT_FRAME with no reply to send removes the oldest report
from the queue and puts its frame of KIND 3, TAG 0 and STATUS 0 on the line. While a reply is held back, REPORT_FRAME does
nothing, and neither begins while a frame is on the line. FRAME_SENT makes the transmitter idle. -/
def Obligations.TransmitterSendsRepliesFirst : Prop :=
  ∀ s : State,
    (s.port.sending = none → ∀ r, s.port.reply = some r →
      exec .replyFrame s = .next
        { s with
          port := { s.port with
            reply := if r.next + 1 < r.frames then some { r with next := r.next + 1 } else none
            sending := some .reply }
          sent := s.sent ++ [.control (r.frame r.next)] } ∧
      exec .reportFrame s = .next s) ∧
    (s.port.sending = none → s.port.reply = none → ∀ r rs, s.port.reports = r :: rs →
      exec .reportFrame s = .next
        { s with
          port := { s.port with reports := rs, sending := some .report }
          sent := s.sent ++ [.control (frameBytes 3 0 (BitVec.ofNat 8 (reportCode r.kind)) 0 r.payload)] }) ∧
    (s.port.sending ≠ none → exec .replyFrame s = .next s ∧ exec .reportFrame s = .next s) ∧
    exec .frameSent s = .next { s with port := { s.port with sending := none } }

/-- A reply in the buffer of an idle transmitter goes out as its frames in order, with no report between them; then the buffer is
empty and nothing else has changed. The payloads of the frames, joined in order, are the reply's payload, every frame but the
last carries exactly 250 bytes of it, and the last the rest, at most 250. There are as many frames as the payload needs, at
least one; each carries KIND 2, the TAG and the CODE, and a STATUS byte that is the status code, plus 128 for PORT_BUSY, plus
64 for CONTINUED in every frame but the last. -/
def Obligations.SegmentedRepliesJoin : Prop :=
  ∀ (s : State) (r : Reply), s.port.reply = some r → r.next = 0 → s.port.sending = none →
    r.frames = max 1 ((r.payload.length + 249) / 250) ∧
    run ((List.replicate r.frames [Instr.replyFrame, .frameSent]).flatten) s = some
      { s with
        port := { s.port with reply := none }
        sent := s.sent ++ (List.range r.frames).map fun k => .control (r.frame k) } ∧
    ∃ parts : List (List Byte), parts.length = r.frames ∧ parts.flatten = r.payload ∧ (∀ p ∈ parts, p.length ≤ 250) ∧
      (∀ (k : Nat) (p : List Byte), parts[k]? = some p → k + 1 < parts.length → p.length = 250) ∧
      ∀ (k : Nat) (p : List Byte), parts[k]? = some p →
        r.frame k = frameBytes 2 r.tag r.code
          (BitVec.ofNat 8 (statusCode r.status + (if k + 1 < parts.length then 64 else 0) + (if r.busy then 128 else 0))) p

/-- A report of a disabled kind, and a LEVEL report for a channel that matches no watch entry in use, is dropped with no flag. A
LEVEL report for a channel that has one queued takes its place there, however full the queue is. Any other report is appended
while fewer than 32 wait; else it is appended and the oldest LEVEL report is removed; and where none is queued it is dropped
and REPORT_LOST is set. Channel c matches an entry in use when c and its value agree in every binary place of its mask. An
offer changes nothing else. -/
def Obligations.ReportsArePlaced : Prop :=
  ∀ (r : Report) (s : State),
    let kept := s.port.enables[r.kind.index] = true ∧ ∀ c, r.levelChannel = some c →
      ∃ w ∈ s.port.watches.toList, w.inUse = true ∧ c.val &&& w.mask = w.value &&& w.mask
    let withReports (rs : List Report) (lost : Bool) : State :=
      { s with port := { s.port with reports := rs, flags := { s.port.flags with reportLost := s.port.flags.reportLost || lost } } }
    (¬kept → s.offer r = s) ∧
    (kept → ∀ c before old after, r.levelChannel = some c → s.port.reports = before ++ old :: after →
      old.levelChannel = some c → (∀ q ∈ before, q.levelChannel ≠ some c) →
      s.offer r = withReports (before ++ r :: after) false) ∧
    (kept → (∀ q ∈ s.port.reports, q.levelChannel = none ∨ q.levelChannel ≠ r.levelChannel) →
      (s.port.reports.length < 32 → s.offer r = withReports (s.port.reports ++ [r]) false) ∧
      (32 ≤ s.port.reports.length →
        (∀ before old after, s.port.reports = before ++ old :: after → old.levelChannel ≠ none →
          (∀ q ∈ before, q.levelChannel = none) → s.offer r = withReports (before ++ after ++ [r]) false) ∧
        ((∀ q ∈ s.port.reports, q.levelChannel = none) → s.offer r = withReports s.port.reports true)))

/-- IDENT is answered OK with 0E71h, 9624, 1 and the line rate code, and nothing but the reply buffer changes. STATUS is answered
OK with the flags OVERRUN, REPORT_LOST, FRAME_ERROR, RESET_SEEN and the nine sources' sticky flags as held; afterwards
FRAME_ERROR and RESET_SEEN are clear, OVERRUN stays only while 8 requests wait, REPORT_LOST only while 32 reports wait of
which none is LEVEL, and a source's flag only while its condition is present. Nothing else changes. -/
def Obligations.IdentAndStatusAreRead : Prop :=
  ∀ (tag : Byte) (s : State), PortFree s →
    (∃ t, exec (.ident tag (.fields ())) s = .next t ∧
      Answered (.ident tag (.fields ())) tag 0x01 .ok [0x0E, 0x71, 0x25, 0x98, 0x01, BitVec.ofNat 8 s.port.lineRate] s t ∧
      KeepsBut [.port] s t) ∧
    ∃ t, exec (.status tag (.fields ())) s = .next t ∧
      (let q := (popRequest (.status tag (.fields ())) s).port
       t.port =
        { q with
          reply := some (replyTo (.status tag (.fields ())) tag 0x03 .ok
            (([s.port.flags.overrun, s.port.flags.reportLost, s.port.flags.frameError, s.port.flags.resetSeen] ++
              [Source.watchdog, .frame, .link 0, .link 1, .link 2, .link 3, .clock, .motor, .overflow].map fun src =>
                (s.source src).sticky).map fun b => if b then 1 else 0) s)
          flags :=
            { overrun := s.port.flags.overrun && decide (q.inbound.length = 8)
              reportLost := s.port.flags.reportLost &&
                decide (q.reports.length = 32 ∧ ∀ r ∈ q.reports, r.levelChannel = none)
              frameError := false
              resetSeen := false } }) ∧
      (∀ src, t.source src = { s.source src with sticky := (s.source src).sticky && conditionPresent s src }) ∧
      t.faults.effective = s.faults.effective ∧ KeepsBut [.port, .reports, .faults] s t

/-- Disabled, HEARTBEAT is answered with an absent timer (FFFFh) and DISABLED and has no effect. Enabled, with a lower limit
other than 0 and the timer below it, it is EARLY and one WATCHDOG occurrence is handed; otherwise it is GOOD and the WATCHDOG
good event is handed; either way the reply carries the timer found and the timer returns to 0. HEARTBEAT_CONFIG with an upper
limit of 250 to 10000 and a lower limit of 0 or below it writes all three settings, and the timer is then 0 or, disabled,
absent; with an empty payload it changes nothing; both replies carry the settings and the timer; an enable above 1, an upper
limit outside 250 to 10000, or a lower limit that is not 0 and not below the upper gives RANGE and changes nothing. A clock
step at the port changes nothing while the window is disabled; enabled, it advances the timer by 1, and the step that brings
it to the upper limit returns it to 0 and hands one WATCHDOG occurrence; HEARTBEAT_LATE is that whole step (the model's
choice, log 4). -/
def Obligations.HeartbeatIsJudged : Prop :=
  (∀ (tag : Byte) (s : State), PortFree s →
    (let c : Instr := .heartbeat tag (.fields ())
     ∃ t, exec c s = .next t ∧
      (s.port.heartbeat.timer = none → Answered c tag 0x02 .ok [0xFF, 0xFF, 0] s t ∧ KeepsBut [.port] s t) ∧
      (∀ x, s.port.heartbeat.timer = some x →
        let early := s.port.heartbeat.lower ≠ 0 ∧ x < s.port.heartbeat.lower
        t = { s with
          port := { s.port with
            inbound := (popRequest c s).port.inbound
            reply := some (replyTo c tag 0x02 .ok (bytesOf 2 x ++ [if early then 1 else 2]) s)
            heartbeat := { s.port.heartbeat with timer := some 0 } }
          handed := s.handed ++ [if early then .occurrence .watchdog else .goodEvent .watchdog] })) ∧
    (∃ t, exec (.heartbeatConfig tag (.fields none)) s = .next t ∧
      Answered (.heartbeatConfig tag (.fields none)) tag 0x07 .ok
        ([if s.port.heartbeat.timer = none then 0 else 1] ++ bytesOf 2 s.port.heartbeat.upper ++
          bytesOf 2 s.port.heartbeat.lower ++ bytesOf 2 (s.port.heartbeat.timer.getD 0xFFFF)) s t ∧ KeepsBut [.port] s t) ∧
    (∀ f : HeartbeatFields, (1 < f.enable ∨ f.upper < 250 ∨ 10000 < f.upper ∨ (f.lower ≠ 0 ∧ f.upper ≤ f.lower)) →
      let c : Instr := .heartbeatConfig tag (.fields (some f))
      ∃ t, exec c s = .next t ∧ Answered c tag 0x07 .range [] s t ∧ KeepsBut [.port] s t) ∧
    ∀ (on : Bool) (upper lower : Nat), 250 ≤ upper → upper ≤ 10000 → (lower = 0 ∨ lower < upper) →
      let c : Instr := .heartbeatConfig tag (.fields (some { enable := on.toNat, upper := upper, lower := lower }))
      exec c s = .next
        { s with
          port := { s.port with
            inbound := (popRequest c s).port.inbound
            reply := some (replyTo c tag 0x07 .ok
              ([if on then 1 else 0] ++ bytesOf 2 upper ++ bytesOf 2 lower ++ (if on then [0, 0] else [0xFF, 0xFF])) s)
            heartbeat := { upper := upper, lower := lower, timer := if on then some 0 else none } } }) ∧
  ∀ (time : Nat) (s : State),
    let e : Instr := .portClockStep time
    (s.port.heartbeat.timer = none → exec e s = .next (s.take e)) ∧
    ∀ x, s.port.heartbeat.timer = some x →
      let with_ (y : Nat) (es : List Instr) : State :=
        { s with
          port := { s.port with heartbeat := { s.port.heartbeat with timer := some y } }
          handed := s.handed.erase e ++ es }
      (x + 1 < s.port.heartbeat.upper → exec e s = .next (with_ (x + 1) [])) ∧
      (s.port.heartbeat.upper ≤ x + 1 →
        exec e s = .next (with_ 0 [.occurrence .watchdog]) ∧
        (e = s.nextStep (.portClockStep ·) → exec .heartbeatLate s = .next (with_ 0 [.occurrence .watchdog])))

/-- REPORT_MODE with nine marks and one of the three modes writes the enables at the port and the mode at the Move Engine.
WATCH_SET with an entry of 0 to 7 and a value and a mask of 0 to 127 writes that entry. With an empty payload neither changes
anything. Every reply is OK and carries the settings in force after the request, and nothing else changes. An enable that is
no mark, a move report mode, entry, in-use mark, value or mask out of range is refused with RANGE and changes nothing. The
modes ALL, EXCEPTIONS and NONE are coded 0, 1 and 2 by their place in the list, so that a mode above 2 is out of range (the
model's choice, log 34). -/
def Obligations.ReportModeAndWatchesAreWritten : Prop :=
  ∀ (tag : Byte) (s : State), PortFree s →
    (∀ (on : Vector Bool 9) (m : MoveReports),
      let c : Instr := .reportMode tag (.fields (some { enables := on.toList.map Bool.toNat, mode := moveReportsCode m }))
      exec c s = .next
        { s with
          port := { s.port with
            inbound := (popRequest c s).port.inbound
            reply := some (replyTo c tag 0x05 .ok (on.toList.flatMap mark ++ byte (moveReportsCode m)) s)
            enables := on }
          engine := { s.engine with reports := m } }) ∧
    (∃ t, exec (.reportMode tag (.fields none)) s = .next t ∧ KeepsBut [.port] s t ∧
      Answered (.reportMode tag (.fields none)) tag 0x05 .ok
        (s.port.enables.toList.flatMap mark ++ byte (moveReportsCode s.engine.reports)) s t) ∧
    (∀ (e : Fin 8) (on : Bool) (value wanted : Nat), value ≤ 127 → wanted ≤ 127 →
      let c : Instr := .watchSet tag (.fields (some { entry := e.val, inUse := on.toNat, value := value, mask := wanted }))
      let ws := s.port.watches.set e { inUse := on, value := value, mask := wanted }
      exec c s = .next
        { s with
          port := { s.port with
            inbound := (popRequest c s).port.inbound
            reply := some (replyTo c tag 0x06 .ok (ws.toList.flatMap fun w => mark w.inUse ++ byte w.value ++ byte w.mask) s)
            watches := ws } }) ∧
    (∀ f : ReportModeFields, f.enables.length = 9 → ((∃ x ∈ f.enables, 1 < x) ∨ 2 < f.mode) →
      let c : Instr := .reportMode tag (.fields (some f))
      ∃ t, exec c s = .next t ∧ Answered c tag 0x05 .range [] s t ∧ KeepsBut [.port] s t) ∧
    (∀ f : WatchFields, (7 < f.entry ∨ 1 < f.inUse ∨ 127 < f.value ∨ 127 < f.mask) →
      let c : Instr := .watchSet tag (.fields (some f))
      ∃ t, exec c s = .next t ∧ Answered c tag 0x06 .range [] s t ∧ KeepsBut [.port] s t) ∧
    ∃ t, exec (.watchSet tag (.fields none)) s = .next t ∧ KeepsBut [.port] s t ∧
      Answered (.watchSet tag (.fields none)) tag 0x06 .ok
        (s.port.watches.toList.flatMap fun w => mark w.inUse ++ byte w.value ++ byte w.mask) s t

/-- Each of the four RESET rows is answered OK, and its scope waits; nothing else changes. A payload that names no scope is
refused with RANGE. RESET_TAKES_EFFECT, the reply buffer being empty, ends the reply's frame on the line, a report's frame
staying on it, ends the wait and hands the reset to the blocks of the scope that waited (RESET ALL then makes the transmitter
idle with the rest of the port); with none waiting it changes nothing. (That the reply's frame ends and a report's stays, and
that RESET ALL leaves the transmitter idle, is the model's choice, log 22.) -/
def Obligations.ResetWaitsForItsReply : Prop :=
  ∀ (tag : Byte) (s : State),
    (PortFree s →
      (∀ p ∈ [(Scope.playback, Instr.resetPlayback tag .own), (.surface, .resetSurface tag .own),
          (.links, .resetLinks tag .own), (.all, .resetAll tag .own)],
        exec p.2 s = .next
          { s with
            port := { s.port with
              inbound := (popRequest p.2 s).port.inbound
              reply := some (replyTo p.2 tag 0x04 .ok [] s)
              resetWaiting := some p.1 } }) ∧
      ∀ v, ∃ t, exec (.resetAll tag (.badScope v)) s = .next t ∧ KeepsBut [.port] s t ∧
        Answered (.resetAll tag (.badScope v)) tag 0x04 .range [] s t) ∧
    (s.port.reply = none → ∀ scope, s.port.resetWaiting = some scope →
      exec .resetTakesEffect s =
        .next (resetScope scope { s with
          port := { s.port with sending := if s.port.sending = some .reply then none else s.port.sending, resetWaiting := none } })) ∧
    (s.port.resetWaiting = none → exec .resetTakesEffect s = .next s)

/-- After POWER_ON the whole part is as State.reset says, at the line rate of the straps (0 for 115 200, 1 for 1 000 000, 2 for 3
000 000; RATE1 is read as the left digit of the strap codes, the model's choice, log 35), its hellos sent. After a waiting
RESET ALL acts it is the same at the line rate it had. Queued requests, the reply, reports, a partial frame and the events in
flight are gone, RESET_SEEN is set and the other port flags are clear. What the manual does not speak of is the model's: the
command queue and the record of what was sent go on (logs 20 and 23), the internal time base runs on through RESET ALL (log
22), and what stands on the surface bus, which is the faders' and not the part's, goes on standing (log 31). -/
def Obligations.PowerOnRestoresEveryBlock : Prop :=
  ∀ s : State,
    (∀ rate1 rate0 : Bool, exec (.powerOn rate1 rate0) s = .next
      { State.reset with
        pending := s.pending
        sent := s.sent ++ State.reset.sent
        surface := { State.reset.surface with bus := s.surface.bus }
        port := { State.reset.port with lineRate := if rate1 then 2 else if rate0 then 1 else 0 } }) ∧
    (s.port.reply = none → s.port.resetWaiting = some .all → exec .resetTakesEffect s = .next
      { State.reset with
        pending := s.pending
        sent := s.sent ++ State.reset.sent
        surface := { State.reset.surface with bus := s.surface.bus }
        port := { State.reset.port with lineRate := s.port.lineRate }
        clock := { State.reset.clock with now := s.clock.now } })

/-- CHAN_READ and TRIM_READ of 1 to 16 items within range carry one record each from the first up, in the layout of 12.9;
GROUP_READ a full record with the members, or summaries; PLAYBACK_READ the sequencer, the move counts and the schedule list;
the empty LEVEL_CONFIG and PLAYBACK_CONFIG the settings; LIST_INFO the counts, first and last cue, generation and load
buffer. CUE_READ finds its cue EXACT or AT_OR_ABOVE, gives ABSENT with none and RANGE for an index above its record count,
else carries generation, header, record count and at most six records. In a list of rising numbers the five lookups answer
the cue the manual names. A range that leaves its items, or a group above 15, gives RANGE. Nothing but the port changes. -/
def Obligations.ShowReadoutsCarryTheirFields : Prop :=
  (∀ (cs : List Cue) (n : Nat) (c : Cue), cs.Pairwise (fun a b => a.number < b.number) →
    (lookupExact cs n = some c ↔ c ∈ cs ∧ c.number = n) ∧
    (lookupAtOrAbove cs n = some c ↔ c ∈ cs ∧ n ≤ c.number ∧ ∀ d ∈ cs, n ≤ d.number → c.number ≤ d.number) ∧
    (lookupAbove cs n = some c ↔ c ∈ cs ∧ n < c.number ∧ ∀ d ∈ cs, n < d.number → c.number ≤ d.number) ∧
    (lookupBelow cs n = some c ↔ c ∈ cs ∧ c.number < n ∧ ∀ d ∈ cs, d.number < n → d.number ≤ c.number) ∧
    (lookupFirst cs = some c ↔ c ∈ cs ∧ ∀ d ∈ cs, c.number ≤ d.number)) ∧
  ∀ (tag : Byte) (s : State), PortFree s →
    let reads (c : Instr) (code : Byte) (payload : List Byte) : Prop :=
      ∃ t, exec c s = .next t ∧ Answered c tag code .ok payload s t ∧ KeepsBut [.port] s t
    let refuses (c : Instr) (code : Byte) (st : Status) : Prop :=
      ∃ t, exec c s = .next t ∧ Answered c tag code st [] s t ∧ KeepsBut [.port] s t
    let flag (b : Bool) : Nat := if b then 1 else 0
    let two (x : Int) : List Byte := bytesOf 2 (x % 65536).toNat
    let gain (g : Gain) : List Byte := match g with
      | .off => [0x80, 0x00]
      | .tenths x => two x
    let glide (r : Channel) : Option Glide := match r.owner with
      | .glide g => some g
      | .forced (.safeGlide g) => some g
      | _ => none
    let channel (c : ChanNo) : List Byte :=
      let r := s.channel c
      bytesOf 1 c.val ++
        ((match r.owner with
          | .auto => [0, 0]
          | .touched => [1, 0]
          | .glide _ => [2, 0]
          | .manual => [3, 0]
          | .forced .frozen => [4, 1]
          | .forced (.safeGlide _) => [4, 2]
          | .forced .atSafe => [4, 3]) : List Byte) ++
        bytesOf 1 (flag r.ownMute + 2 * flag (effectiveMute s c) + 4 * flag r.safed + 8 * flag r.clip + 16 * flag r.settled) ++
        ([match r.releaseMode with
          | .ret => 0
          | .learn => 1
          | .latch => 2] : List Byte) ++
        ([match r.touchPolicy with
          | .shadow => 0
          | .yield => 1] : List Byte) ++
        bytesOf 2 r.pAuto.val ++ bytesOf 2 r.pOp.val ++ bytesOf 2 r.pEff.val ++ bytesOf 2 r.releasePos.val ++
        bytesOf 2 (((glide r).map fun g => g.origin.val).getD 0xFFFF) ++ bytesOf 2 (((glide r).map Glide.progress).getD 0xFFFF) ++
        bytesOf 2 (((glide r).map Glide.length).getD 0xFFFF) ++ bytesOf 2 ((r.safeLevel.map Fin.val).getD 0xFFFF) ++
        bytesOf 1 ((r.strip.map Fin.val).getD 0xFF) ++ two r.workingTrim.val ++ two r.staticTrim ++ gain r.gain ++ two r.mute ++
        gain r.target ++ gain r.output
    let head (g : GroupNo) : List Byte :=
      bytesOf 2 (s.group g).master.val ++ [if (s.group g).muted then 1 else 0] ++ bytesOf 1 (s.group g).members.length
    let moving (g : GroupNo) : List Byte := bytesOf 1 (s.engine.moves.filter fun m => m.target = .master g).length
    let waiting := (s.engine.moves.filter fun m => !m.isRunning).length
    (∀ first count : Nat,
      let f : RangeFields := { first := first, count := count }
      let cs := allChannels.filter fun c => first ≤ c.val ∧ c.val < first + count
      let gs := (List.finRange 16).filter fun g => first ≤ g.val ∧ g.val < first + count
      (1 ≤ count → count ≤ 16 → first + count ≤ 96 →
        reads (.chanRead tag (.fields f)) 0x32 (cs.flatMap channel) ∧
        reads (.trimRead tag (.fields f)) 0x3B
          ([BitVec.ofNat 8 (tableCode s.trims.current), BitVec.ofNat 8 (tableCode s.trims.next),
              BitVec.ofNat 8 (tableCode s.trims.spare)] ++
            cs.flatMap fun c => two ((s.trims.table s.trims.current)[c]).val ++ two ((s.trims.table s.trims.next)[c]).val)) ∧
      (96 < first + count → refuses (.chanRead tag (.fields f)) 0x32 .range ∧ refuses (.trimRead tag (.fields f)) 0x3B .range) ∧
      (1 ≤ count → first + count ≤ 16 →
        reads (.groupRead tag (.fields (.range first count))) 0x43 (gs.flatMap fun g => head g ++ moving g)) ∧
      (16 < first + count → refuses (.groupRead tag (.fields (.range first count))) 0x43 .range)) ∧
    (∀ g : GroupNo, reads (.groupRead tag (.fields (.one g.val))) 0x43
      (head g ++ ((s.group g).members.flatMap fun c => bytesOf 1 c.val) ++ moving g)) ∧
    (∀ n : Nat, 15 < n → refuses (.groupRead tag (.fields (.one n))) 0x43 .range) ∧
    reads (.levelConfig tag (.fields none)) 0x35
      (bytesOf 2 s.levels.glideTime ++ bytesOf 2 s.levels.muteRamp ++ bytesOf 2 s.levels.slew) ∧
    reads (.playbackConfig tag (.fields none)) 0x29 (bytesOf 3 s.seq.backTime) ∧
    reads (.playbackRead tag (.fields ())) 0x28
      ([BitVec.ofNat 8 (playStateCode s.seq.state), if holds s.seq.action then 1 else 0] ++
        bytesOf 3 (s.seq.standby.getD 0) ++ bytesOf 3 (s.seq.lastFired.getD 0) ++
        bytesOf 3 ((s.seq.follow.map Follow.countdown).getD 0) ++ bytesOf 3 ((s.seq.follow.map Follow.source).getD 0) ++
        bytesOf 3 s.seq.backTime ++ bytesOf 1 s.engine.moves.length ++ bytesOf 1 waiting ++
        bytesOf 1 (s.engine.moves.length - waiting) ++ bytesOf 1 s.seq.schedule.length ++
        s.seq.schedule.flatMap fun x => bytesOf 4 x.time ++ bytesOf 3 x.cue ++ [if x.due then 1 else 0]) ∧
    reads (.listInfo tag (.fields ())) 0x14
      (bytesOf 2 s.store.cues.length ++ bytesOf 2 (s.store.cues.map fun c => c.records.length).sum ++
        bytesOf 3 ((s.store.cues.head?.map Cue.number).getD 0) ++ bytesOf 3 ((s.store.cues.getLast?.map Cue.number).getD 0) ++
        bytesOf 2 s.store.generation ++
        match s.store.buffer with
        | none => [0]
        | some b => [1] ++ bytesOf 3 b.number ++ bytesOf 1 b.staged.length ++ bytesOf 1 b.nextPart) ∧
    ∀ (n index : Nat) (orAbove : Bool), 1 ≤ n → n ≤ 99999 → index ≤ 64 →
      let c : Instr := .cueRead tag (.fields { cue := n, mode := orAbove.toNat, index := index })
      let found := if orAbove then lookupAtOrAbove s.store.cues n else lookupExact s.store.cues n
      (found = none → refuses c 0x12 .absent) ∧
      ∀ q, found = some q →
        (q.records.length < index → refuses c 0x12 .range) ∧
        (index ≤ q.records.length → reads c 0x12
          (bytesOf 2 s.store.generation ++ bytesOf 3 q.number ++ bytesOf 1 q.header.label.length ++ q.header.label ++
            bytesOf 3 (q.header.follow.getD 0) ++ bytesOf 3 (q.header.link.getD 0) ++ [if q.header.age then 1 else 0] ++
            bytesOf 1 q.records.length ++ bytesOf 1 (min 6 (q.records.length - index)) ++
            ((q.records.drop index).take 6).flatMap recordBytes))

/-- STRIP_READ carries the active bank and one record for each strip counted; BANK_MAP with the bank alone its 24 entries;
SURFACE_CONFIG without fields the settings; LINK_READ a link's standing and counters; SLOT_MAP without entries, for each
slot, its own entry, effective source, last-sent value, queued mark and gain and stale mark; LINK_CONFIG with the link alone
its five settings; CLOCK_CONFIG without fields source, rate and lock state; CLOCK_READ the show time, these, the offset, the
count and the elapsed time; FAULT_CONFIG with the source alone its record; FAULT_READ the effective action and, of each
source, its record, sticky flag and condition. The phase WAIT_RELEASE has the code 4 (the model's choice, log 45). Absent
values are all ones (the model's choice where no layout is given, log 19). A range that leaves its items gives RANGE. Nothing
but the port changes. -/
def Obligations.DeviceReadoutsCarryTheirFields : Prop :=
  ∀ (tag : Byte) (s : State), PortFree s →
    let reads (c : Instr) (code : Byte) (payload : List Byte) : Prop :=
      ∃ t, exec c s = .next t ∧ Answered c tag code .ok payload s t ∧ KeepsBut [.port] s t
    let refuses (c : Instr) (code : Byte) : Prop :=
      ∃ t, exec c s = .next t ∧ Answered c tag code .range [] s t ∧ KeepsBut [.port] s t
    let bit (b : Bool) : List Byte := [if b then 1 else 0]
    let number (n : Option Nat) : List Byte := bytesOf 1 (n.getD 0xFF)
    let gain (g : Option Gain) : List Byte := match g with
      | none => [0x80, 0x01]
      | some .off => [0x80, 0x00]
      | some (.tenths x) => bytesOf 2 (x % 65536).toNat
    let strip (n : StripNo) : List Byte :=
      let r := s.strip n
      bytesOf 1 r.state.code ++ number (r.channel.map Fin.val) ++
        number (s.surface.banks[s.surface.activeBank][n].map Fin.val) ++ bytesOf 2 r.raw ++ bytesOf 2 r.converted.val ++
        bytesOf 2 r.reported.val ++ bit r.reading ++
        ((match r.state with
          | .touched i => bit i.isSome
          | _ => [0xFF]) : List Byte) ++
        bytesOf 2 ((r.target.map Fin.val).getD 0xFFFF) ++
        ((match r.state with
          | .seeking x => bytesOf 2 x
          | _ => [0xFF, 0xFF]) : List Byte) ++
        bytesOf 1 r.timeouts ++
        ((match r.state with
          | .tracking d => bytesOf 1 d
          | .touched (some i) => [0xFF] ++ bytesOf 1 i
          | _ => [0xFF]) : List Byte) ++
        ((match r.state with
          | .touched (some _) => []
          | _ => [0xFF]) : List Byte) ++
        bytesOf 2 r.low ++ bytesOf 2 r.high ++ bytesOf 1 (r.fine % 256).toNat ++
        ((match r.state with
          | .calibrating cal => bytesOf 1 (phaseCode cal.phase)
          | _ => [0xFF]) : List Byte) ++
        number (r.result.map calResultCode)
    let source (src : Source) : List Byte :=
      let r := s.source src
      bytesOf 1 (actionCode r.action) ++ bytesOf 1 r.trip ++ bit r.masked ++ bytesOf 1 r.state.code ++ bytesOf 1 r.count
    let k := s.clock
    let clock : List Byte := [match k.source with
        | .internal => 0
        | .external => 1] ++ bytesOf 1 k.rate ++ bytesOf 1 k.lock.code
    (∀ first count : Nat,
      let ns := allStrips.filter fun n => first ≤ n.val ∧ n.val < first + count
      (1 ≤ count → first + count ≤ 24 →
        reads (.stripRead tag (.fields { first := first, count := count })) 0x54
          (bytesOf 1 s.surface.activeBank.val ++ ns.flatMap strip)) ∧
      (24 < first + count → refuses (.stripRead tag (.fields { first := first, count := count })) 0x54)) ∧
    (∀ b : BankNo, reads (.bankMap tag (.fields { bank := b.val, write := none })) 0x50
      (allStrips.flatMap fun n => number (s.surface.banks[b][n].map Fin.val))) ∧
    (let x := s.surface.settings;
     reads (.surfaceConfig tag (.fields .read)) 0x53
      (([x.start, x.stop, x.touch, x.release, x.debounce, x.hysteresis, x.drift]).flatMap (bytesOf 1))) ∧
    (∀ l : LinkNo,
      let r := s.link l
      reads (.linkRead tag (.fields l.val)) 0x62
        (bytesOf 1 r.state.code ++ bit r.enable ++ number (r.mirror.map Fin.val) ++ bytesOf 1 r.queue.length ++ bit r.congested ++
          bytesOf 1 r.stale.length ++ bytesOf 1 r.high ++ bytesOf 1 r.low ++ bytesOf 1 r.step ++ bytesOf 4 r.framesSent ++
          bytesOf 4 r.entriesSent ++ bytesOf 4 r.hellosUnanswered ++ bytesOf 4 r.keepaliveLosses) ∧
      reads (.linkConfig tag (.fields { link := l.val, settings := none })) 0x61
        (bit r.enable ++ bytesOf 1 r.high ++ bytesOf 1 r.low ++ bytesOf 1 r.step ++ number (r.mirror.map Fin.val)) ∧
      ∀ first count : Nat, 1 ≤ count → first + count ≤ 64 →
        reads (.slotMap tag (.fields { link := l.val, first := first, count := count, entries := none })) 0x60
          ((allSlots.filter fun x => first ≤ x.val ∧ x.val < first + count).flatMap fun x =>
            number (r.ownMap[x].map Fin.val) ++
              number ((match r.mirror with
                | some m => (s.link m).ownMap
                | none => r.ownMap)[x].map Fin.val) ++
              gain r.lastSent[x] ++ bit (r.queue.any fun e => e.1 = x) ++
              gain ((r.queue.find? fun e => e.1 = x).map Prod.snd) ++ bit (r.stale.contains x))) ∧
    (∀ n : Nat, 3 < n → refuses (.linkRead tag (.fields n)) 0x62 ∧
      refuses (.bankMap tag (.fields { bank := n, write := none })) 0x50 ∧
      refuses (.linkConfig tag (.fields { link := n, settings := none })) 0x61) ∧
    reads (.clockConfig tag (.fields none)) 0x70 clock ∧
    reads (.clockRead tag (.fields ())) 0x72
      (bytesOf 4 k.showTime ++ clock ++ bytesOf 2 (k.rho % 65536).toNat ++
        (match k.lock with
          | .acquiring n => bytesOf 1 n ++ [0xFF, 0xFF]
          | .holdover us => [0xFF] ++ bytesOf 2 (us / 1000)
          | _ => [0xFF, 0xFF, 0xFF])) ∧
    (∀ src : Source, reads (.faultConfig tag (.fields { source := sourceCode src, settings := none })) 0x78 (source src)) ∧
    reads (.faultRead tag (.fields ())) 0x7B
      (bytesOf 1 (actionCode s.faults.effective) ++
        (([.watchdog, .frame, .link 0, .link 1, .link 2, .link 3, .clock, .motor, .overflow] : List Source)).flatMap fun src =>
          source src ++ bit (s.source src).sticky ++ bit (conditionPresent s src))

/-- As a waiting RESET acts. PLAYBACK: every move ends CANCELLED, the schedule, countdown and last-fired cue are gone, the
standby is the first cue, a hold ends unless HOLD or a more severe action is in force, at the engine with it (the model's
choice, log 44), all trims are 0 with an event to each channel whose Current trim changed, and each MANUAL or GLIDE channel
glides anew from its P_eff (before it takes the trim event: log 36). SURFACE: in strip order each TOUCHED strip's channel is
released under RETURN, with what the release hands and its TOUCH report; bank 0 and the default settings are in force, every
strip calibrates anew with runs and timeout count 0, with a STRIP_STATE report, in strip order, of each that was ABSENT or
met the MOTOR condition (log 26), the MOTOR good event follows where the condition was met, then the pass runs. LINKS: every
link is as at power-on but for its source tripped mark, its hello sent, with LINK_STATE where its state changed. The reply's
frame ends and a report's stays on the line (the model's choice, log 22); the scans a strip is owed, the half step and the
surface bus stay (log 31). A reset takes first, one by one, the sequencer's events in flight at the Move Engine, or those of
the surface at the channel of the first TOUCHED strip (log 7); the rest is stated with none in flight. -/
def Obligations.PartialResetsReachTheirBlocks : Prop :=
  ∀ s : State, s.port.reply = none →
    let acts (scope : Scope) (t : State) : Prop := s.port.resetWaiting = some scope ∧ exec .resetTakesEffect s = .next t ∧
      t.port = { s.port with
        sending := if s.port.sending = some .reply then none else s.port.sending
        resetWaiting := none
        reports := t.port.reports
        flags := { s.port.flags with reportLost := t.port.flags.reportLost } }
    (∀ (pre post : List Instr) (e : Instr), s.handed = pre ++ e :: post →
      (s.port.resetWaiting = some .playback → isEngineOrder e = true → (∀ x ∈ pre, isEngineOrder x = false) →
        ∃ u, exec e s = .next u ∧ exec .resetTakesEffect s = exec .resetTakesEffect u) ∧
      (s.port.resetWaiting = some .surface → ∀ (n : StripNo) (c : ChanNo), (s.strip n).isTouched = true →
        (s.strip n).channel = some c → (∀ m < n, (s.strip m).isTouched = false) → isSurfaceEvent c e = true →
        (∀ x ∈ pre, isSurfaceEvent c x = false) →
        ∃ u, exec e s = .next u ∧ exec .resetTakesEffect s = exec .resetTakesEffect u)) ∧
    (s.port.resetWaiting = some .playback → (∀ e ∈ s.handed, isEngineOrder e = false) →
      let time := s.levels.glideTime
      let q := s.seq
      let first := s.store.cues.head?.map Cue.number
      let resumes : Prop := q.state = .held ∧ (q.action = .none)
      let again (c : ChanNo) : Bool := match (s.channel c).owner with
        | .manual => true
        | .glide _ => true
        | _ => false
      let w (c : ChanNo) : Channel := let r := s.channel c
        if time = 0 then { r with owner := .auto, pEff := r.autoValue } else { r with owner := .glide ⟨r.pEff, 0, time⟩ }
      ∃ t, acts .playback t ∧ KeepsBut [.port, .reports, .handed, .seq, .engine, .trims, .channels] s t ∧
        t.engine = { s.engine with moves := [], held := if resumes then false else s.engine.held } ∧
        t.seq = { q with
          schedule := [], follow := none, lastFired := none, standby := first
          state := if q.state = .held ∧ q.action ≠ .none then .held else playStateBy none q.listEmpty first } ∧
        t.trims.current = s.trims.current ∧ (∀ (n : TrimTable) (c : ChanNo), (t.trims.table n)[c] = Trim.zero) ∧
        (∀ c, again c = false → t.channel c = s.channel c) ∧
        (∀ c, again c = true →
          t.channel c = { w c with
            gain := (t.channel c).gain, clip := (t.channel c).clip, target := (t.channel c).target,
            settled := (t.channel c).settled } ∧
          ((w c).pEff = (s.channel c).pEff → t.channel c = w c) ∧ ((w c).pEff ≠ (s.channel c).pEff → LevelsWorkedOut c t)) ∧
        t.handed = s.handed ++
          ((allChannels.filter fun c => (s.trims.table s.trims.current)[c] ≠ Trim.zero).map fun c =>
            .currentTrimChanged c Trim.zero) ++
          ((allChannels.filter again).flatMap fun c =>
            (if (w c).pEff = (s.channel c).pEff then [] else (s.channel c).strip.toList.map fun n => .motorTarget n c (w c).pEff) ++
              settlingEvents c s t) ∧
        OfferedEach (endReports s .cancelled s.engine.moves ++
          (allChannels.filter again).flatMap fun c => settlingReports c s t) s t) ∧
    (s.port.resetWaiting = some .surface → (∀ e ∈ s.handed, ∀ c, isSurfaceEvent c e = false) → StripsLegal s →
      let held (n : StripNo) : List ChanNo := if (s.strip n).isTouched then (s.strip n).channel.toList else []
      ∃ t v, acts .surface t ∧ t = assignmentPass v ∧ KeepsBut [.port, .reports, .handed, .surface, .channels] s t ∧
        v.surface.activeBank = 0 ∧ v.surface.settings = {} ∧ v.surface.banks = s.surface.banks ∧
        v.surface.halfStep = s.surface.halfStep ∧ v.surface.bus = s.surface.bus ∧
        (∀ n, v.strip n = { s.strip n with
          state := .calibrating {}, reading := false, onRun := 0, offRun := 0, timeouts := 0 }) ∧
        (∀ n, ∀ c ∈ held n, ∃ x, exec (.releaseEvent c n true) s = .next x ∧ t.channel c = x.channel c) ∧
        (∀ c, (∀ n, c ∉ held n) → t.channel c = s.channel c) ∧
        (v.handed = s.handed ++
          (allStrips.flatMap fun n => (held n).flatMap fun c =>
            (if (t.channel c).pEff = (s.channel c).pEff then []
              else (s.channel c).strip.toList.map fun m => .motorTarget m c (t.channel c).pEff) ++ settlingEvents c s t) ++
          (if motorPresent s.surface then [.goodEvent .motor] else [])) ∧
        OfferedEach (
          (allStrips.flatMap fun n => (held n).flatMap fun c => settlingReports c s t ++
            [.touch n (some c) true (match (s.strip n).state with | .touched still => still.isSome | _ => false)
              (s.strip n).reported]) ++
          (allStrips.filter fun n => (s.strip n).state = .absent ∨ (s.strip n).motorCondition = true).map fun n =>
            .stripState n (s.strip n).state.code 1 (s.strip n).channel (s.strip n).result) s t) ∧
    (s.port.resetWaiting = some .links →
      let state (l : LinkNo) : LinkState := if (s.link l).tripped then .fault 50 else .training 50
      ∃ t, acts .links t ∧ KeepsBut [.port, .reports, .sent, .links] s t ∧
        (∀ l, t.link l = { ownMap := defaultMap l, state := state l, tripped := (s.link l).tripped }) ∧
        (t.sent = s.sent ++ allLinks.map fun l => .link l [0xA5, 1, 0, 0x2E, 0x3E]) ∧
        OfferedEach ((allLinks.filter fun l => (s.link l).state.code ≠ (state l).code).map fun l =>
          .linkState l (s.link l).state.code (state l).code none) s t)

/-- In State.reset every channel is AUTO at 0 with its output OFF and SETTLED set, the levels are 1000 ms, 20 ms and 30, the
trims 0 with A, B and C playing Current, Next and Spare, the masters at 768 and unmuted with no members; no move, cue, load
or trigger is held, the sequencer is EMPTY with a back time of 2000 ms; every strip calibrates with its bank-0 channel, every
link trains with a window of 50, the clock is FREE and INTERNAL at 0, every source is CLEAR and the action NONE, and no
request, reply or report waits. The laws of the cue list, the levels, the trims, the groups, the moves, the queues, the
strips, the links, the clock, the faults and playback hold, and the next move id is below 65536. -/
def Obligations.ResetMeetsTheLaws : Prop :=
  let s := State.reset
  (∀ c, (s.channel c).owner = .auto ∧ (s.channel c).pAuto = 0 ∧ (s.channel c).pEff = 0 ∧ (s.channel c).output = .off ∧
      (s.channel c).settled = true ∧ (s.channel c).mute = 0 ∧ (s.channel c).ownMute = false ∧ (s.channel c).safed = false ∧
      (s.channel c).safeLevel = none ∧ (s.channel c).applied = .none ∧ s.trims.inCurrent c = Trim.zero) ∧
    s.levels.glideTime = 1000 ∧ s.levels.muteRamp = 20 ∧ s.levels.slew = 30 ∧
    s.trims.current = .a ∧ s.trims.next = .b ∧ s.trims.spare = .c ∧
    (∀ g, s.group g = { master := 768, muted := false, members := [] }) ∧
    s.engine.moves = [] ∧ s.engine.held = false ∧ s.store.cues = [] ∧ s.store.generation = 0 ∧ s.store.buffer = none ∧
    s.seq.state = .empty ∧ s.seq.standby = none ∧ s.seq.schedule = [] ∧ s.seq.backTime = 2000 ∧ s.seq.listEmpty = true ∧
    (∀ n : StripNo, (s.strip n).state = .calibrating {} ∧ (s.strip n).channel = some ⟨n.val, by omega⟩ ∧
      (s.strip n).low = 64 ∧ (s.strip n).high = 4031) ∧
    (∀ l, (s.link l).state = .training 50 ∧ (s.link l).enable = true ∧ (s.link l).high = 48 ∧ (s.link l).low = 16 ∧
      (s.link l).step = 5) ∧
    s.clock.showTime = 0 ∧ s.clock.source = .internal ∧ s.clock.rate = 25 ∧ s.clock.lock = .free ∧
    (∀ src, (s.source src).state = .clear ∧ (s.source src).count = 0 ∧ (s.source src).sticky = false) ∧
    (s.source .watchdog).action = .hold ∧ (s.source .frame).trip = 4 ∧ s.faults.effective = .none ∧
    s.port.inbound = [] ∧ s.port.reply = none ∧ s.port.reports = [] ∧ s.port.flags.resetSeen = true ∧
    s.port.heartbeat.timer = none ∧
    ListLegal s ∧ LevelsLegal s ∧ SpareEmpty s ∧ GroupsLegal s ∧ MovesLegal s ∧ QueuesLegal s ∧ StripsLegal s ∧ LinksLegal s ∧
    FaultsLegal s ∧ PlaybackLegal s ∧ ClockLegal s ∧ s.engine.nextId < 65536

/-- From any state whose cue list stands in strictly rising order with at most 512 cues and 4096 records, every step answers a
state that does too. From any state in which G, T and O of every channel are OFF or -900 to +100, M lies from -900 to 0 with
goal 0 or -900, static trims from -200 to +100, SETTLED is set exactly while O equals T, and the level settings lie in their
ranges, every step answers such a state. -/
def Obligations.CueListAndLevelsStayLegal : Prop :=
  ∀ s t : State, step s = .next t → (ListLegal s → ListLegal t) ∧ (LevelsLegal s → LevelsLegal t)

/-- Each of these laws, holding in any state, holds after any step: every trim of the table playing Spare is 0; no channel is a
member of more than four groups; the move table holds at most 128 moves, at most one RUNNING on any target; the id of the
next move is below 65536; at most 8 requests and 32 reports wait, at most one LEVEL report for a channel. -/
def Obligations.TablesAndQueuesStayLegal : Prop :=
  ∀ s t : State, step s = .next t →
    (SpareEmpty s → SpareEmpty t) ∧ (GroupsLegal s → GroupsLegal t) ∧ (MovesLegal s → MovesLegal t) ∧
      (QueuesLegal s → QueuesLegal t) ∧ (s.engine.nextId < 65536 → t.engine.nextId < 65536)

/-- Each of these laws, holding in any state, holds after any step: no channel is the channel of more than one strip; no link's
queue holds a slot twice, no slot is both queued and stale, a link that is not UP has nothing queued, nothing stale and is
not CONGESTED, and no link mirrors a mirror. -/
def Obligations.StripsAndLinksStayLegal : Prop :=
  ∀ s t : State, step s = .next t → (StripsLegal s → StripsLegal t) ∧ (LinksLegal s → LinksLegal t)

/-- Each of these laws, holding in any state, holds after any step: the effective action is the most severe action of the tripped
sources and a source's count is 0 exactly in CLEAR; the playback state is HELD or the one worked out from countdown, list and
standby, and it is HELD while the action at the sequencer is HOLD or more severe. The clock record is legal: the reference
rate is 24, 25 or 30, the show time at most 4294967295, the rate offset in force and that of the running interval from -19608
to +20408, the carried part of the interval less than an interval; the history holds at most 8 periods, each accepted at the
reference rate; the mark is not ahead of the internal time; FREE goes with INTERNAL, every other lock state with EXTERNAL;
FREE and LOST have rate offset 0, no history and no mark, ACQUIRING rate offset 0 and a count below 8, LOCKED a silence
within its limit and HOLDOVER at most 2000 ms elapsed (the interval and its offset are the model's, log 8). -/
def Obligations.FaultsAndPlaybackStayLegal : Prop :=
  ∀ s t : State, step s = .next t → (FaultsLegal s → FaultsLegal t) ∧ (PlaybackLegal s → PlaybackLegal t) ∧ (ClockLegal s → ClockLegal t)

/-- With the transmitter idle and no reply, REPORT_FRAME sends the oldest report as a frame of KIND 3, TAG 0, STATUS 0 and the
report's code (80h MOVE_END to 88h SCHEDULE), A5h and the payload length first, the CRC over KIND to the payload last. The
payload is as long as its fields together, and at each field's offset its bytes spell the field's value: MOVE_END id, cue (0
absent), target (masters from 96), result, final position; CUE_FIRED cue, cause, standby and follow (0 absent), show time;
LEVEL channel, gain (8000h OFF, else two's complement), CLIP; TOUCH strip, channel (FFh none), kind, implied mark, position;
FAULT source, kind, count, action, effective action; CLOCK_STATE old and new state, source, rate, show time, rate offset in
two's complement; LINK_STATE link, old and new state, mirror source (FFh none); STRIP_STATE strip, old and new state,
channel, result (FFh none); SCHEDULE kind, cue, trigger time, show time. Every value lies in the range of its width. Names
are coded by their place in their lists, fault actions too (log 34). -/
def Obligations.ReportPayloadsAreLaidOut : Prop :=
  let whole (k : Nat) (x : Int) : Nat := (x % (256 ^ k : Nat)).toNat
  let code (c : Option Nat) : Nat := c.getD 255
  let bit (b : Bool) : Nat := if b then 1 else 0
  let place {α : Type} [DecidableEq α] (names : List α) (x : α) : Nat := names.idxOf x
  let action := place [Action.none, .hold, .freeze, .safe]
  let fields (r : Report) : Nat × List (Nat × Nat) := match r with
    | .moveEnd id cue t res final => (0x80, [(2, id), (3, cue.getD 0),
        (1, match t with | .channel c => c.val | .master g => 96 + g.val),
        (1, place [.completed, .takenOver, .yielded, .safed, .cancelled, .overflow] res), (2, final.val)])
    | .cueFired cue cause standby follow time => (0x81, [(3, cue),
        (1, place [.go, .goto, .follow, .schedule, .scheduleLate, .back] cause), (3, standby.getD 0), (3, follow.getD 0), (4, time)])
    | .level c o clip => (0x82, [(1, c.val), (2, match o with | .off => 0x8000 | .tenths x => whole 2 x), (1, bit clip)])
    | .touch n c released implied p =>
      (0x83, [(1, n.val), (1, code (c.map Fin.val)), (1, bit released), (1, bit implied), (2, p.val)])
    | .fault src cleared count a e =>
      (0x84, [(1, place [.watchdog, .frame, .link 0, .link 1, .link 2, .link 3, .clock, .motor, .overflow] src),
        (1, bit cleared), (1, count), (1, action a), (1, action e)])
    | .clockState old new source rate time rho => (0x85, [(1, old), (1, new), (1, place [.internal, .external] source),
        (1, rate), (4, time), (2, whole 2 rho)])
    | .linkState l old new mirror => (0x86, [(1, l.val), (1, old), (1, new), (1, code (mirror.map Fin.val))])
    | .stripState n old new c res => (0x87, [(1, n.val), (1, old), (1, new), (1, code (c.map Fin.val)),
        (1, code (res.map (place [.ok, .fail, .timeout, .aborted])))])
    | .schedule late cue time now => (0x88, [(1, bit late), (3, cue), (4, time), (4, now)])
  let spells (bs : List Byte) (n : Nat) : Prop := bs.foldl (fun m b => 256 * m + b.toNat) 0 = n
  ∀ (r : Report) (rest : List Report) (s : State),
    s.port.sending = none → s.port.reply = none → s.port.reports = r :: rest →
    (∀ w ∈ (fields r).2, w.2 < 256 ^ w.1) →
    ∃ t payload crc, exec .reportFrame s = .next t ∧
      t.sent = s.sent ++ [.control ([0xA5, BitVec.ofNat 8 payload.length] ++
        ([3, 0, BitVec.ofNat 8 (fields r).1, 0] ++ payload) ++ crc)] ∧
      crc = crcBytes ([3, 0, BitVec.ofNat 8 (fields r).1, 0] ++ payload) ∧
      t.port = { s.port with reports := rest, sending := some .report } ∧ KeepsBut [.port, .sent, .reports] s t ∧
      payload.length = ((fields r).2.map Prod.fst).sum ∧
      ∀ i w, (fields r).2[i]? = some w →
        spells ((payload.drop (((fields r).2.take i).map Prod.fst).sum).take w.1) w.2
end

