-- ==== Sys2Proof/Laws/State.lean ====
section
/-! SUPPORT. One lemma per field per update of the state, true by definition, and what a record reads after a write. -/

namespace Sys2Proof.Machine

/-! ## Fields an update leaves alone -/

@[simp] theorem State.setChannel_pending (s : State) (c : ChanNo) (r : Channel) : (s.setChannel c r).pending = s.pending := rfl
@[simp] theorem State.setChannel_handed (s : State) (c : ChanNo) (r : Channel) : (s.setChannel c r).handed = s.handed := rfl
@[simp] theorem State.setChannel_sent (s : State) (c : ChanNo) (r : Channel) : (s.setChannel c r).sent = s.sent := rfl
@[simp] theorem State.setChannel_port (s : State) (c : ChanNo) (r : Channel) : (s.setChannel c r).port = s.port := rfl
@[simp] theorem State.setChannel_store (s : State) (c : ChanNo) (r : Channel) : (s.setChannel c r).store = s.store := rfl
@[simp] theorem State.setChannel_seq (s : State) (c : ChanNo) (r : Channel) : (s.setChannel c r).seq = s.seq := rfl
@[simp] theorem State.setChannel_engine (s : State) (c : ChanNo) (r : Channel) : (s.setChannel c r).engine = s.engine := rfl
@[simp] theorem State.setChannel_levels (s : State) (c : ChanNo) (r : Channel) : (s.setChannel c r).levels = s.levels := rfl
@[simp] theorem State.setChannel_trims (s : State) (c : ChanNo) (r : Channel) : (s.setChannel c r).trims = s.trims := rfl
@[simp] theorem State.setChannel_groups (s : State) (c : ChanNo) (r : Channel) : (s.setChannel c r).groups = s.groups := rfl
@[simp] theorem State.setChannel_surface (s : State) (c : ChanNo) (r : Channel) : (s.setChannel c r).surface = s.surface := rfl
@[simp] theorem State.setChannel_links (s : State) (c : ChanNo) (r : Channel) : (s.setChannel c r).links = s.links := rfl
@[simp] theorem State.setChannel_clock (s : State) (c : ChanNo) (r : Channel) : (s.setChannel c r).clock = s.clock := rfl
@[simp] theorem State.setChannel_faults (s : State) (c : ChanNo) (r : Channel) : (s.setChannel c r).faults = s.faults := rfl

@[simp] theorem State.setGroup_pending (s : State) (g : GroupNo) (r : Group) : (s.setGroup g r).pending = s.pending := rfl
@[simp] theorem State.setGroup_handed (s : State) (g : GroupNo) (r : Group) : (s.setGroup g r).handed = s.handed := rfl
@[simp] theorem State.setGroup_sent (s : State) (g : GroupNo) (r : Group) : (s.setGroup g r).sent = s.sent := rfl
@[simp] theorem State.setGroup_port (s : State) (g : GroupNo) (r : Group) : (s.setGroup g r).port = s.port := rfl
@[simp] theorem State.setGroup_store (s : State) (g : GroupNo) (r : Group) : (s.setGroup g r).store = s.store := rfl
@[simp] theorem State.setGroup_seq (s : State) (g : GroupNo) (r : Group) : (s.setGroup g r).seq = s.seq := rfl
@[simp] theorem State.setGroup_engine (s : State) (g : GroupNo) (r : Group) : (s.setGroup g r).engine = s.engine := rfl
@[simp] theorem State.setGroup_levels (s : State) (g : GroupNo) (r : Group) : (s.setGroup g r).levels = s.levels := rfl
@[simp] theorem State.setGroup_channels (s : State) (g : GroupNo) (r : Group) : (s.setGroup g r).channels = s.channels := rfl
@[simp] theorem State.setGroup_trims (s : State) (g : GroupNo) (r : Group) : (s.setGroup g r).trims = s.trims := rfl
@[simp] theorem State.setGroup_surface (s : State) (g : GroupNo) (r : Group) : (s.setGroup g r).surface = s.surface := rfl
@[simp] theorem State.setGroup_links (s : State) (g : GroupNo) (r : Group) : (s.setGroup g r).links = s.links := rfl
@[simp] theorem State.setGroup_clock (s : State) (g : GroupNo) (r : Group) : (s.setGroup g r).clock = s.clock := rfl
@[simp] theorem State.setGroup_faults (s : State) (g : GroupNo) (r : Group) : (s.setGroup g r).faults = s.faults := rfl

@[simp] theorem State.setStrip_pending (s : State) (n : StripNo) (r : Strip) : (s.setStrip n r).pending = s.pending := rfl
@[simp] theorem State.setStrip_handed (s : State) (n : StripNo) (r : Strip) : (s.setStrip n r).handed = s.handed := rfl
@[simp] theorem State.setStrip_sent (s : State) (n : StripNo) (r : Strip) : (s.setStrip n r).sent = s.sent := rfl
@[simp] theorem State.setStrip_port (s : State) (n : StripNo) (r : Strip) : (s.setStrip n r).port = s.port := rfl
@[simp] theorem State.setStrip_store (s : State) (n : StripNo) (r : Strip) : (s.setStrip n r).store = s.store := rfl
@[simp] theorem State.setStrip_seq (s : State) (n : StripNo) (r : Strip) : (s.setStrip n r).seq = s.seq := rfl
@[simp] theorem State.setStrip_engine (s : State) (n : StripNo) (r : Strip) : (s.setStrip n r).engine = s.engine := rfl
@[simp] theorem State.setStrip_levels (s : State) (n : StripNo) (r : Strip) : (s.setStrip n r).levels = s.levels := rfl
@[simp] theorem State.setStrip_channels (s : State) (n : StripNo) (r : Strip) : (s.setStrip n r).channels = s.channels := rfl
@[simp] theorem State.setStrip_trims (s : State) (n : StripNo) (r : Strip) : (s.setStrip n r).trims = s.trims := rfl
@[simp] theorem State.setStrip_groups (s : State) (n : StripNo) (r : Strip) : (s.setStrip n r).groups = s.groups := rfl
@[simp] theorem State.setStrip_links (s : State) (n : StripNo) (r : Strip) : (s.setStrip n r).links = s.links := rfl
@[simp] theorem State.setStrip_clock (s : State) (n : StripNo) (r : Strip) : (s.setStrip n r).clock = s.clock := rfl
@[simp] theorem State.setStrip_faults (s : State) (n : StripNo) (r : Strip) : (s.setStrip n r).faults = s.faults := rfl

@[simp] theorem State.setLink_pending (s : State) (l : LinkNo) (r : Link) : (s.setLink l r).pending = s.pending := rfl
@[simp] theorem State.setLink_handed (s : State) (l : LinkNo) (r : Link) : (s.setLink l r).handed = s.handed := rfl
@[simp] theorem State.setLink_sent (s : State) (l : LinkNo) (r : Link) : (s.setLink l r).sent = s.sent := rfl
@[simp] theorem State.setLink_port (s : State) (l : LinkNo) (r : Link) : (s.setLink l r).port = s.port := rfl
@[simp] theorem State.setLink_store (s : State) (l : LinkNo) (r : Link) : (s.setLink l r).store = s.store := rfl
@[simp] theorem State.setLink_seq (s : State) (l : LinkNo) (r : Link) : (s.setLink l r).seq = s.seq := rfl
@[simp] theorem State.setLink_engine (s : State) (l : LinkNo) (r : Link) : (s.setLink l r).engine = s.engine := rfl
@[simp] theorem State.setLink_levels (s : State) (l : LinkNo) (r : Link) : (s.setLink l r).levels = s.levels := rfl
@[simp] theorem State.setLink_channels (s : State) (l : LinkNo) (r : Link) : (s.setLink l r).channels = s.channels := rfl
@[simp] theorem State.setLink_trims (s : State) (l : LinkNo) (r : Link) : (s.setLink l r).trims = s.trims := rfl
@[simp] theorem State.setLink_groups (s : State) (l : LinkNo) (r : Link) : (s.setLink l r).groups = s.groups := rfl
@[simp] theorem State.setLink_surface (s : State) (l : LinkNo) (r : Link) : (s.setLink l r).surface = s.surface := rfl
@[simp] theorem State.setLink_clock (s : State) (l : LinkNo) (r : Link) : (s.setLink l r).clock = s.clock := rfl
@[simp] theorem State.setLink_faults (s : State) (l : LinkNo) (r : Link) : (s.setLink l r).faults = s.faults := rfl

@[simp] theorem State.setSource_pending (s : State) (src : Source) (r : SourceRecord) : (s.setSource src r).pending = s.pending := rfl
@[simp] theorem State.setSource_handed (s : State) (src : Source) (r : SourceRecord) : (s.setSource src r).handed = s.handed := rfl
@[simp] theorem State.setSource_sent (s : State) (src : Source) (r : SourceRecord) : (s.setSource src r).sent = s.sent := rfl
@[simp] theorem State.setSource_port (s : State) (src : Source) (r : SourceRecord) : (s.setSource src r).port = s.port := rfl
@[simp] theorem State.setSource_store (s : State) (src : Source) (r : SourceRecord) : (s.setSource src r).store = s.store := rfl
@[simp] theorem State.setSource_seq (s : State) (src : Source) (r : SourceRecord) : (s.setSource src r).seq = s.seq := rfl
@[simp] theorem State.setSource_engine (s : State) (src : Source) (r : SourceRecord) : (s.setSource src r).engine = s.engine := rfl
@[simp] theorem State.setSource_levels (s : State) (src : Source) (r : SourceRecord) : (s.setSource src r).levels = s.levels := rfl
@[simp] theorem State.setSource_channels (s : State) (src : Source) (r : SourceRecord) : (s.setSource src r).channels = s.channels := rfl
@[simp] theorem State.setSource_trims (s : State) (src : Source) (r : SourceRecord) : (s.setSource src r).trims = s.trims := rfl
@[simp] theorem State.setSource_groups (s : State) (src : Source) (r : SourceRecord) : (s.setSource src r).groups = s.groups := rfl
@[simp] theorem State.setSource_surface (s : State) (src : Source) (r : SourceRecord) : (s.setSource src r).surface = s.surface := rfl
@[simp] theorem State.setSource_links (s : State) (src : Source) (r : SourceRecord) : (s.setSource src r).links = s.links := rfl
@[simp] theorem State.setSource_clock (s : State) (src : Source) (r : SourceRecord) : (s.setSource src r).clock = s.clock := rfl

@[simp] theorem State.hand_pending (s : State) (es : List Instr) : (s.hand es).pending = s.pending := rfl
@[simp] theorem State.hand_sent (s : State) (es : List Instr) : (s.hand es).sent = s.sent := rfl
@[simp] theorem State.hand_port (s : State) (es : List Instr) : (s.hand es).port = s.port := rfl
@[simp] theorem State.hand_store (s : State) (es : List Instr) : (s.hand es).store = s.store := rfl
@[simp] theorem State.hand_seq (s : State) (es : List Instr) : (s.hand es).seq = s.seq := rfl
@[simp] theorem State.hand_engine (s : State) (es : List Instr) : (s.hand es).engine = s.engine := rfl
@[simp] theorem State.hand_levels (s : State) (es : List Instr) : (s.hand es).levels = s.levels := rfl
@[simp] theorem State.hand_channels (s : State) (es : List Instr) : (s.hand es).channels = s.channels := rfl
@[simp] theorem State.hand_trims (s : State) (es : List Instr) : (s.hand es).trims = s.trims := rfl
@[simp] theorem State.hand_groups (s : State) (es : List Instr) : (s.hand es).groups = s.groups := rfl
@[simp] theorem State.hand_surface (s : State) (es : List Instr) : (s.hand es).surface = s.surface := rfl
@[simp] theorem State.hand_links (s : State) (es : List Instr) : (s.hand es).links = s.links := rfl
@[simp] theorem State.hand_clock (s : State) (es : List Instr) : (s.hand es).clock = s.clock := rfl
@[simp] theorem State.hand_faults (s : State) (es : List Instr) : (s.hand es).faults = s.faults := rfl

@[simp] theorem State.take_pending (s : State) (e : Instr) : (s.take e).pending = s.pending := rfl
@[simp] theorem State.take_sent (s : State) (e : Instr) : (s.take e).sent = s.sent := rfl
@[simp] theorem State.take_port (s : State) (e : Instr) : (s.take e).port = s.port := rfl
@[simp] theorem State.take_store (s : State) (e : Instr) : (s.take e).store = s.store := rfl
@[simp] theorem State.take_seq (s : State) (e : Instr) : (s.take e).seq = s.seq := rfl
@[simp] theorem State.take_engine (s : State) (e : Instr) : (s.take e).engine = s.engine := rfl
@[simp] theorem State.take_levels (s : State) (e : Instr) : (s.take e).levels = s.levels := rfl
@[simp] theorem State.take_channels (s : State) (e : Instr) : (s.take e).channels = s.channels := rfl
@[simp] theorem State.take_trims (s : State) (e : Instr) : (s.take e).trims = s.trims := rfl
@[simp] theorem State.take_groups (s : State) (e : Instr) : (s.take e).groups = s.groups := rfl
@[simp] theorem State.take_surface (s : State) (e : Instr) : (s.take e).surface = s.surface := rfl
@[simp] theorem State.take_links (s : State) (e : Instr) : (s.take e).links = s.links := rfl
@[simp] theorem State.take_clock (s : State) (e : Instr) : (s.take e).clock = s.clock := rfl
@[simp] theorem State.take_faults (s : State) (e : Instr) : (s.take e).faults = s.faults := rfl

@[simp] theorem State.emit_pending (s : State) (o : Outbound) : (s.emit o).pending = s.pending := rfl
@[simp] theorem State.emit_handed (s : State) (o : Outbound) : (s.emit o).handed = s.handed := rfl
@[simp] theorem State.emit_port (s : State) (o : Outbound) : (s.emit o).port = s.port := rfl
@[simp] theorem State.emit_store (s : State) (o : Outbound) : (s.emit o).store = s.store := rfl
@[simp] theorem State.emit_seq (s : State) (o : Outbound) : (s.emit o).seq = s.seq := rfl
@[simp] theorem State.emit_engine (s : State) (o : Outbound) : (s.emit o).engine = s.engine := rfl
@[simp] theorem State.emit_levels (s : State) (o : Outbound) : (s.emit o).levels = s.levels := rfl
@[simp] theorem State.emit_channels (s : State) (o : Outbound) : (s.emit o).channels = s.channels := rfl
@[simp] theorem State.emit_trims (s : State) (o : Outbound) : (s.emit o).trims = s.trims := rfl
@[simp] theorem State.emit_groups (s : State) (o : Outbound) : (s.emit o).groups = s.groups := rfl
@[simp] theorem State.emit_surface (s : State) (o : Outbound) : (s.emit o).surface = s.surface := rfl
@[simp] theorem State.emit_links (s : State) (o : Outbound) : (s.emit o).links = s.links := rfl
@[simp] theorem State.emit_clock (s : State) (o : Outbound) : (s.emit o).clock = s.clock := rfl
@[simp] theorem State.emit_faults (s : State) (o : Outbound) : (s.emit o).faults = s.faults := rfl

@[simp] theorem State.offer_pending (s : State) (r : Report) : (s.offer r).pending = s.pending := rfl
@[simp] theorem State.offer_handed (s : State) (r : Report) : (s.offer r).handed = s.handed := rfl
@[simp] theorem State.offer_sent (s : State) (r : Report) : (s.offer r).sent = s.sent := rfl
@[simp] theorem State.offer_store (s : State) (r : Report) : (s.offer r).store = s.store := rfl
@[simp] theorem State.offer_seq (s : State) (r : Report) : (s.offer r).seq = s.seq := rfl
@[simp] theorem State.offer_engine (s : State) (r : Report) : (s.offer r).engine = s.engine := rfl
@[simp] theorem State.offer_levels (s : State) (r : Report) : (s.offer r).levels = s.levels := rfl
@[simp] theorem State.offer_channels (s : State) (r : Report) : (s.offer r).channels = s.channels := rfl
@[simp] theorem State.offer_trims (s : State) (r : Report) : (s.offer r).trims = s.trims := rfl
@[simp] theorem State.offer_groups (s : State) (r : Report) : (s.offer r).groups = s.groups := rfl
@[simp] theorem State.offer_surface (s : State) (r : Report) : (s.offer r).surface = s.surface := rfl
@[simp] theorem State.offer_links (s : State) (r : Report) : (s.offer r).links = s.links := rfl
@[simp] theorem State.offer_clock (s : State) (r : Report) : (s.offer r).clock = s.clock := rfl
@[simp] theorem State.offer_faults (s : State) (r : Report) : (s.offer r).faults = s.faults := rfl

@[simp] theorem State.setMoves_pending (s : State) (ms : List Move) : (s.setMoves ms).pending = s.pending := rfl
@[simp] theorem State.setMoves_handed (s : State) (ms : List Move) : (s.setMoves ms).handed = s.handed := rfl
@[simp] theorem State.setMoves_sent (s : State) (ms : List Move) : (s.setMoves ms).sent = s.sent := rfl
@[simp] theorem State.setMoves_port (s : State) (ms : List Move) : (s.setMoves ms).port = s.port := rfl
@[simp] theorem State.setMoves_store (s : State) (ms : List Move) : (s.setMoves ms).store = s.store := rfl
@[simp] theorem State.setMoves_seq (s : State) (ms : List Move) : (s.setMoves ms).seq = s.seq := rfl
@[simp] theorem State.setMoves_levels (s : State) (ms : List Move) : (s.setMoves ms).levels = s.levels := rfl
@[simp] theorem State.setMoves_channels (s : State) (ms : List Move) : (s.setMoves ms).channels = s.channels := rfl
@[simp] theorem State.setMoves_trims (s : State) (ms : List Move) : (s.setMoves ms).trims = s.trims := rfl
@[simp] theorem State.setMoves_groups (s : State) (ms : List Move) : (s.setMoves ms).groups = s.groups := rfl
@[simp] theorem State.setMoves_surface (s : State) (ms : List Move) : (s.setMoves ms).surface = s.surface := rfl
@[simp] theorem State.setMoves_links (s : State) (ms : List Move) : (s.setMoves ms).links = s.links := rfl
@[simp] theorem State.setMoves_clock (s : State) (ms : List Move) : (s.setMoves ms).clock = s.clock := rfl
@[simp] theorem State.setMoves_faults (s : State) (ms : List Move) : (s.setMoves ms).faults = s.faults := rfl

@[simp] theorem State.setSeq_pending (s : State) (q : Sequencer) : (s.setSeq q).pending = s.pending := rfl
@[simp] theorem State.setSeq_handed (s : State) (q : Sequencer) : (s.setSeq q).handed = s.handed := rfl
@[simp] theorem State.setSeq_sent (s : State) (q : Sequencer) : (s.setSeq q).sent = s.sent := rfl
@[simp] theorem State.setSeq_port (s : State) (q : Sequencer) : (s.setSeq q).port = s.port := rfl
@[simp] theorem State.setSeq_store (s : State) (q : Sequencer) : (s.setSeq q).store = s.store := rfl
@[simp] theorem State.setSeq_engine (s : State) (q : Sequencer) : (s.setSeq q).engine = s.engine := rfl
@[simp] theorem State.setSeq_levels (s : State) (q : Sequencer) : (s.setSeq q).levels = s.levels := rfl
@[simp] theorem State.setSeq_channels (s : State) (q : Sequencer) : (s.setSeq q).channels = s.channels := rfl
@[simp] theorem State.setSeq_trims (s : State) (q : Sequencer) : (s.setSeq q).trims = s.trims := rfl
@[simp] theorem State.setSeq_groups (s : State) (q : Sequencer) : (s.setSeq q).groups = s.groups := rfl
@[simp] theorem State.setSeq_surface (s : State) (q : Sequencer) : (s.setSeq q).surface = s.surface := rfl
@[simp] theorem State.setSeq_links (s : State) (q : Sequencer) : (s.setSeq q).links = s.links := rfl
@[simp] theorem State.setSeq_clock (s : State) (q : Sequencer) : (s.setSeq q).clock = s.clock := rfl
@[simp] theorem State.setSeq_faults (s : State) (q : Sequencer) : (s.setSeq q).faults = s.faults := rfl

@[simp] theorem State.setSchedule_pending (s : State) (ts : List Trigger) : (s.setSchedule ts).pending = s.pending := rfl
@[simp] theorem State.setSchedule_handed (s : State) (ts : List Trigger) : (s.setSchedule ts).handed = s.handed := rfl
@[simp] theorem State.setSchedule_sent (s : State) (ts : List Trigger) : (s.setSchedule ts).sent = s.sent := rfl
@[simp] theorem State.setSchedule_port (s : State) (ts : List Trigger) : (s.setSchedule ts).port = s.port := rfl
@[simp] theorem State.setSchedule_store (s : State) (ts : List Trigger) : (s.setSchedule ts).store = s.store := rfl
@[simp] theorem State.setSchedule_engine (s : State) (ts : List Trigger) : (s.setSchedule ts).engine = s.engine := rfl
@[simp] theorem State.setSchedule_levels (s : State) (ts : List Trigger) : (s.setSchedule ts).levels = s.levels := rfl
@[simp] theorem State.setSchedule_channels (s : State) (ts : List Trigger) : (s.setSchedule ts).channels = s.channels := rfl
@[simp] theorem State.setSchedule_trims (s : State) (ts : List Trigger) : (s.setSchedule ts).trims = s.trims := rfl
@[simp] theorem State.setSchedule_groups (s : State) (ts : List Trigger) : (s.setSchedule ts).groups = s.groups := rfl
@[simp] theorem State.setSchedule_surface (s : State) (ts : List Trigger) : (s.setSchedule ts).surface = s.surface := rfl
@[simp] theorem State.setSchedule_links (s : State) (ts : List Trigger) : (s.setSchedule ts).links = s.links := rfl
@[simp] theorem State.setSchedule_clock (s : State) (ts : List Trigger) : (s.setSchedule ts).clock = s.clock := rfl
@[simp] theorem State.setSchedule_faults (s : State) (ts : List Trigger) : (s.setSchedule ts).faults = s.faults := rfl

@[simp] theorem State.setClock_pending (s : State) (k : Clock) : (s.setClock k).pending = s.pending := rfl
@[simp] theorem State.setClock_handed (s : State) (k : Clock) : (s.setClock k).handed = s.handed := rfl
@[simp] theorem State.setClock_sent (s : State) (k : Clock) : (s.setClock k).sent = s.sent := rfl
@[simp] theorem State.setClock_port (s : State) (k : Clock) : (s.setClock k).port = s.port := rfl
@[simp] theorem State.setClock_store (s : State) (k : Clock) : (s.setClock k).store = s.store := rfl
@[simp] theorem State.setClock_seq (s : State) (k : Clock) : (s.setClock k).seq = s.seq := rfl
@[simp] theorem State.setClock_engine (s : State) (k : Clock) : (s.setClock k).engine = s.engine := rfl
@[simp] theorem State.setClock_levels (s : State) (k : Clock) : (s.setClock k).levels = s.levels := rfl
@[simp] theorem State.setClock_channels (s : State) (k : Clock) : (s.setClock k).channels = s.channels := rfl
@[simp] theorem State.setClock_trims (s : State) (k : Clock) : (s.setClock k).trims = s.trims := rfl
@[simp] theorem State.setClock_groups (s : State) (k : Clock) : (s.setClock k).groups = s.groups := rfl
@[simp] theorem State.setClock_surface (s : State) (k : Clock) : (s.setClock k).surface = s.surface := rfl
@[simp] theorem State.setClock_links (s : State) (k : Clock) : (s.setClock k).links = s.links := rfl
@[simp] theorem State.setClock_faults (s : State) (k : Clock) : (s.setClock k).faults = s.faults := rfl

@[simp] theorem State.setPort_pending (s : State) (p : Port) : (s.setPort p).pending = s.pending := rfl
@[simp] theorem State.setPort_handed (s : State) (p : Port) : (s.setPort p).handed = s.handed := rfl
@[simp] theorem State.setPort_sent (s : State) (p : Port) : (s.setPort p).sent = s.sent := rfl
@[simp] theorem State.setPort_store (s : State) (p : Port) : (s.setPort p).store = s.store := rfl
@[simp] theorem State.setPort_seq (s : State) (p : Port) : (s.setPort p).seq = s.seq := rfl
@[simp] theorem State.setPort_engine (s : State) (p : Port) : (s.setPort p).engine = s.engine := rfl
@[simp] theorem State.setPort_levels (s : State) (p : Port) : (s.setPort p).levels = s.levels := rfl
@[simp] theorem State.setPort_channels (s : State) (p : Port) : (s.setPort p).channels = s.channels := rfl
@[simp] theorem State.setPort_trims (s : State) (p : Port) : (s.setPort p).trims = s.trims := rfl
@[simp] theorem State.setPort_groups (s : State) (p : Port) : (s.setPort p).groups = s.groups := rfl
@[simp] theorem State.setPort_surface (s : State) (p : Port) : (s.setPort p).surface = s.surface := rfl
@[simp] theorem State.setPort_links (s : State) (p : Port) : (s.setPort p).links = s.links := rfl
@[simp] theorem State.setPort_clock (s : State) (p : Port) : (s.setPort p).clock = s.clock := rfl
@[simp] theorem State.setPort_faults (s : State) (p : Port) : (s.setPort p).faults = s.faults := rfl

/-! ## The field an update writes -/

@[simp] theorem State.hand_handed (s : State) (es : List Instr) : (s.hand es).handed = s.handed ++ es := rfl
@[simp] theorem State.take_handed (s : State) (e : Instr) : (s.take e).handed = s.handed.erase e := rfl
@[simp] theorem State.emit_sent (s : State) (o : Outbound) : (s.emit o).sent = s.sent ++ [o] := rfl
@[simp] theorem State.offer_port (s : State) (r : Report) : (s.offer r).port = s.port.offer r := rfl
@[simp] theorem State.setMoves_moves (s : State) (ms : List Move) : (s.setMoves ms).engine.moves = ms := rfl
@[simp] theorem State.setMoves_nextId (s : State) (ms : List Move) : (s.setMoves ms).engine.nextId = s.engine.nextId := rfl
@[simp] theorem State.setMoves_held (s : State) (ms : List Move) : (s.setMoves ms).engine.held = s.engine.held := rfl
@[simp] theorem State.setMoves_reports (s : State) (ms : List Move) : (s.setMoves ms).engine.reports = s.engine.reports := rfl
@[simp] theorem State.setSeq_seq (s : State) (q : Sequencer) : (s.setSeq q).seq = q := rfl
@[simp] theorem State.setSchedule_seq (s : State) (ts : List Trigger) :
    (s.setSchedule ts).seq = { s.seq with schedule := ts } := rfl
@[simp] theorem State.setClock_clock (s : State) (k : Clock) : (s.setClock k).clock = k := rfl
@[simp] theorem State.setPort_port (s : State) (p : Port) : (s.setPort p).port = p := rfl
@[simp] theorem State.setStrip_settings (s : State) (n : StripNo) (r : Strip) :
    (s.setStrip n r).surface.settings = s.surface.settings := rfl
@[simp] theorem State.setStrip_activeBank (s : State) (n : StripNo) (r : Strip) :
    (s.setStrip n r).surface.activeBank = s.surface.activeBank := rfl
@[simp] theorem State.setStrip_banks (s : State) (n : StripNo) (r : Strip) :
    (s.setStrip n r).surface.banks = s.surface.banks := rfl
@[simp] theorem State.setSource_effective (s : State) (src : Source) (r : SourceRecord) :
    (s.setSource src r).faults.effective = s.faults.effective := by cases src <;> rfl

/-! ## Records read back -/

@[simp] theorem State.channel_setChannel_same (s : State) (c : ChanNo) (r : Channel) : (s.setChannel c r).channel c = r := by
  simp [State.channel, State.setChannel]

theorem State.channel_setChannel_ne (s : State) {c d : ChanNo} (r : Channel) (h : d ≠ c) :
    (s.setChannel c r).channel d = s.channel d := by
  have h' : c.val ≠ d.val := fun e => h (Fin.ext e.symm)
  simp [State.channel, State.setChannel, h']

theorem State.channel_setChannel (s : State) (c d : ChanNo) (r : Channel) :
    (s.setChannel c r).channel d = if d = c then r else s.channel d := by
  split
  · next h => subst h; simp
  · next h => exact s.channel_setChannel_ne r h

@[simp] theorem State.group_setGroup_same (s : State) (g : GroupNo) (r : Group) : (s.setGroup g r).group g = r := by
  simp [State.group, State.setGroup]

theorem State.group_setGroup_ne (s : State) {g k : GroupNo} (r : Group) (h : k ≠ g) :
    (s.setGroup g r).group k = s.group k := by
  have h' : g.val ≠ k.val := fun e => h (Fin.ext e.symm)
  simp [State.group, State.setGroup, h']

@[simp] theorem State.strip_setStrip_same (s : State) (n : StripNo) (r : Strip) : (s.setStrip n r).strip n = r := by
  simp [State.strip, State.setStrip]

theorem State.strip_setStrip_ne (s : State) {n m : StripNo} (r : Strip) (h : m ≠ n) :
    (s.setStrip n r).strip m = s.strip m := by
  have h' : n.val ≠ m.val := fun e => h (Fin.ext e.symm)
  simp [State.strip, State.setStrip, h']

@[simp] theorem State.link_setLink_same (s : State) (l : LinkNo) (r : Link) : (s.setLink l r).link l = r := by
  simp [State.link, State.setLink]

theorem State.link_setLink_ne (s : State) {l k : LinkNo} (r : Link) (h : k ≠ l) : (s.setLink l r).link k = s.link k := by
  have h' : l.val ≠ k.val := fun e => h (Fin.ext e.symm)
  simp [State.link, State.setLink, h']

@[simp] theorem FaultMonitor.record_setRecord_same (m : FaultMonitor) (src : Source) (r : SourceRecord) :
    (m.setRecord src r).record src = r := by
  cases src <;> simp [FaultMonitor.record, FaultMonitor.setRecord]

theorem FaultMonitor.record_setRecord_ne (m : FaultMonitor) {src k : Source} (r : SourceRecord) (h : k ≠ src) :
    (m.setRecord src r).record k = m.record k := by
  cases src <;> cases k <;> simp_all [FaultMonitor.record, FaultMonitor.setRecord, Vector.getElem_set]
  intro e; exact absurd (Fin.ext e.symm) h

@[simp] theorem State.source_setSource_same (s : State) (src : Source) (r : SourceRecord) :
    (s.setSource src r).source src = r := by
  simp [State.source, State.setSource]

theorem State.source_setSource_ne (s : State) {src k : Source} (r : SourceRecord) (h : k ≠ src) :
    (s.setSource src r).source k = s.source k := by
  simp [State.source, State.setSource, FaultMonitor.record_setRecord_ne _ _ h]

/-! ## Records other updates leave alone -/

@[simp] theorem State.setGroup_channel (s : State) (g : GroupNo) (r : Group) (c : ChanNo) : (s.setGroup g r).channel c = s.channel c := rfl
@[simp] theorem State.setStrip_channel (s : State) (n : StripNo) (r : Strip) (c : ChanNo) : (s.setStrip n r).channel c = s.channel c := rfl
@[simp] theorem State.setLink_channel (s : State) (l : LinkNo) (r : Link) (c : ChanNo) : (s.setLink l r).channel c = s.channel c := rfl
@[simp] theorem State.setSource_channel (s : State) (src : Source) (r : SourceRecord) (c : ChanNo) : (s.setSource src r).channel c = s.channel c := rfl
@[simp] theorem State.hand_channel (s : State) (es : List Instr) (c : ChanNo) : (s.hand es).channel c = s.channel c := rfl
@[simp] theorem State.take_channel (s : State) (e : Instr) (c : ChanNo) : (s.take e).channel c = s.channel c := rfl
@[simp] theorem State.emit_channel (s : State) (o : Outbound) (c : ChanNo) : (s.emit o).channel c = s.channel c := rfl
@[simp] theorem State.offer_channel (s : State) (r : Report) (c : ChanNo) : (s.offer r).channel c = s.channel c := rfl
@[simp] theorem State.setMoves_channel (s : State) (ms : List Move) (c : ChanNo) : (s.setMoves ms).channel c = s.channel c := rfl
@[simp] theorem State.setSeq_channel (s : State) (q : Sequencer) (c : ChanNo) : (s.setSeq q).channel c = s.channel c := rfl
@[simp] theorem State.setSchedule_channel (s : State) (ts : List Trigger) (c : ChanNo) : (s.setSchedule ts).channel c = s.channel c := rfl
@[simp] theorem State.setClock_channel (s : State) (k : Clock) (c : ChanNo) : (s.setClock k).channel c = s.channel c := rfl
@[simp] theorem State.setPort_channel (s : State) (p : Port) (c : ChanNo) : (s.setPort p).channel c = s.channel c := rfl
@[simp] theorem State.setChannel_group (s : State) (c : ChanNo) (r : Channel) (k : GroupNo) : (s.setChannel c r).group k = s.group k := rfl
@[simp] theorem State.setStrip_group (s : State) (n : StripNo) (r : Strip) (k : GroupNo) : (s.setStrip n r).group k = s.group k := rfl
@[simp] theorem State.setLink_group (s : State) (l : LinkNo) (r : Link) (k : GroupNo) : (s.setLink l r).group k = s.group k := rfl
@[simp] theorem State.setSource_group (s : State) (src : Source) (r : SourceRecord) (k : GroupNo) : (s.setSource src r).group k = s.group k := rfl
@[simp] theorem State.hand_group (s : State) (es : List Instr) (k : GroupNo) : (s.hand es).group k = s.group k := rfl
@[simp] theorem State.take_group (s : State) (e : Instr) (k : GroupNo) : (s.take e).group k = s.group k := rfl
@[simp] theorem State.emit_group (s : State) (o : Outbound) (k : GroupNo) : (s.emit o).group k = s.group k := rfl
@[simp] theorem State.offer_group (s : State) (r : Report) (k : GroupNo) : (s.offer r).group k = s.group k := rfl
@[simp] theorem State.setMoves_group (s : State) (ms : List Move) (k : GroupNo) : (s.setMoves ms).group k = s.group k := rfl
@[simp] theorem State.setSeq_group (s : State) (q : Sequencer) (k : GroupNo) : (s.setSeq q).group k = s.group k := rfl
@[simp] theorem State.setSchedule_group (s : State) (ts : List Trigger) (k : GroupNo) : (s.setSchedule ts).group k = s.group k := rfl
@[simp] theorem State.setClock_group (s : State) (k : Clock) (k' : GroupNo) : (s.setClock k).group k' = s.group k' := rfl
@[simp] theorem State.setPort_group (s : State) (p : Port) (k : GroupNo) : (s.setPort p).group k = s.group k := rfl
@[simp] theorem State.setChannel_strip (s : State) (c : ChanNo) (r : Channel) (m : StripNo) : (s.setChannel c r).strip m = s.strip m := rfl
@[simp] theorem State.setGroup_strip (s : State) (g : GroupNo) (r : Group) (m : StripNo) : (s.setGroup g r).strip m = s.strip m := rfl
@[simp] theorem State.setLink_strip (s : State) (l : LinkNo) (r : Link) (m : StripNo) : (s.setLink l r).strip m = s.strip m := rfl
@[simp] theorem State.setSource_strip (s : State) (src : Source) (r : SourceRecord) (m : StripNo) : (s.setSource src r).strip m = s.strip m := rfl
@[simp] theorem State.hand_strip (s : State) (es : List Instr) (m : StripNo) : (s.hand es).strip m = s.strip m := rfl
@[simp] theorem State.take_strip (s : State) (e : Instr) (m : StripNo) : (s.take e).strip m = s.strip m := rfl
@[simp] theorem State.emit_strip (s : State) (o : Outbound) (m : StripNo) : (s.emit o).strip m = s.strip m := rfl
@[simp] theorem State.offer_strip (s : State) (r : Report) (m : StripNo) : (s.offer r).strip m = s.strip m := rfl
@[simp] theorem State.setMoves_strip (s : State) (ms : List Move) (m : StripNo) : (s.setMoves ms).strip m = s.strip m := rfl
@[simp] theorem State.setSeq_strip (s : State) (q : Sequencer) (m : StripNo) : (s.setSeq q).strip m = s.strip m := rfl
@[simp] theorem State.setSchedule_strip (s : State) (ts : List Trigger) (m : StripNo) : (s.setSchedule ts).strip m = s.strip m := rfl
@[simp] theorem State.setClock_strip (s : State) (k : Clock) (m : StripNo) : (s.setClock k).strip m = s.strip m := rfl
@[simp] theorem State.setPort_strip (s : State) (p : Port) (m : StripNo) : (s.setPort p).strip m = s.strip m := rfl
@[simp] theorem State.setChannel_link (s : State) (c : ChanNo) (r : Channel) (k : LinkNo) : (s.setChannel c r).link k = s.link k := rfl
@[simp] theorem State.setGroup_link (s : State) (g : GroupNo) (r : Group) (k : LinkNo) : (s.setGroup g r).link k = s.link k := rfl
@[simp] theorem State.setStrip_link (s : State) (n : StripNo) (r : Strip) (k : LinkNo) : (s.setStrip n r).link k = s.link k := rfl
@[simp] theorem State.setSource_link (s : State) (src : Source) (r : SourceRecord) (k : LinkNo) : (s.setSource src r).link k = s.link k := rfl
@[simp] theorem State.hand_link (s : State) (es : List Instr) (k : LinkNo) : (s.hand es).link k = s.link k := rfl
@[simp] theorem State.take_link (s : State) (e : Instr) (k : LinkNo) : (s.take e).link k = s.link k := rfl
@[simp] theorem State.emit_link (s : State) (o : Outbound) (k : LinkNo) : (s.emit o).link k = s.link k := rfl
@[simp] theorem State.offer_link (s : State) (r : Report) (k : LinkNo) : (s.offer r).link k = s.link k := rfl
@[simp] theorem State.setMoves_link (s : State) (ms : List Move) (k : LinkNo) : (s.setMoves ms).link k = s.link k := rfl
@[simp] theorem State.setSeq_link (s : State) (q : Sequencer) (k : LinkNo) : (s.setSeq q).link k = s.link k := rfl
@[simp] theorem State.setSchedule_link (s : State) (ts : List Trigger) (k : LinkNo) : (s.setSchedule ts).link k = s.link k := rfl
@[simp] theorem State.setClock_link (s : State) (k : Clock) (k' : LinkNo) : (s.setClock k).link k' = s.link k' := rfl
@[simp] theorem State.setPort_link (s : State) (p : Port) (k : LinkNo) : (s.setPort p).link k = s.link k := rfl
@[simp] theorem State.setChannel_source (s : State) (c : ChanNo) (r : Channel) (k : Source) : (s.setChannel c r).source k = s.source k := rfl
@[simp] theorem State.setGroup_source (s : State) (g : GroupNo) (r : Group) (k : Source) : (s.setGroup g r).source k = s.source k := rfl
@[simp] theorem State.setStrip_source (s : State) (n : StripNo) (r : Strip) (k : Source) : (s.setStrip n r).source k = s.source k := rfl
@[simp] theorem State.setLink_source (s : State) (l : LinkNo) (r : Link) (k : Source) : (s.setLink l r).source k = s.source k := rfl
@[simp] theorem State.hand_source (s : State) (es : List Instr) (k : Source) : (s.hand es).source k = s.source k := rfl
@[simp] theorem State.take_source (s : State) (e : Instr) (k : Source) : (s.take e).source k = s.source k := rfl
@[simp] theorem State.emit_source (s : State) (o : Outbound) (k : Source) : (s.emit o).source k = s.source k := rfl
@[simp] theorem State.offer_source (s : State) (r : Report) (k : Source) : (s.offer r).source k = s.source k := rfl
@[simp] theorem State.setMoves_source (s : State) (ms : List Move) (k : Source) : (s.setMoves ms).source k = s.source k := rfl
@[simp] theorem State.setSeq_source (s : State) (q : Sequencer) (k : Source) : (s.setSeq q).source k = s.source k := rfl
@[simp] theorem State.setSchedule_source (s : State) (ts : List Trigger) (k : Source) : (s.setSchedule ts).source k = s.source k := rfl
@[simp] theorem State.setClock_source (s : State) (k : Clock) (k' : Source) : (s.setClock k).source k' = s.source k' := rfl
@[simp] theorem State.setPort_source (s : State) (p : Port) (k : Source) : (s.setPort p).source k = s.source k := rfl

end Sys2Proof.Machine
end

