-- ==== Sys2Proof/Laws/Frames.lean ====
section
/-! SUPPORT. What each shared operation leaves alone, in the terms of KeepsBut. -/

namespace Sys2Proof.Machine

/-! ## Frames compose -/

theorem Part.same_refl (p : Part) (s : State) : p.same s s := by cases p <;> simp [Part.same]

theorem Part.same_trans {p : Part} {s t u : State} (h : p.same s t) (k : p.same t u) : p.same s u := by
  cases p
  case port => simp only [Part.same] at *; rw [h] at k; exact k
  case reports => exact ⟨k.1.trans h.1, k.2.trans h.2⟩
  all_goals exact k.trans h

theorem KeepsBut.refl (ps : List Part) (s : State) : KeepsBut ps s s := ⟨fun p _ => p.same_refl s⟩

theorem KeepsBut.trans {ps : List Part} {s t u : State} (h : KeepsBut ps s t) (k : KeepsBut ps t u) : KeepsBut ps s u :=
  ⟨fun p hp => Part.same_trans (h.same p hp) (k.same p hp)⟩

theorem KeepsBut.mono {ps qs : List Part} {s t : State} (h : KeepsBut ps s t) (hs : ∀ p ∈ ps, p ∈ qs) : KeepsBut qs s t :=
  ⟨fun p hp => h.same p fun hm => hp (hs p hm)⟩

theorem keeps_foldl {α : Type} {ps : List Part} {f : State → α → State} (h : ∀ s a, KeepsBut ps s (f s a)) (l : List α)
    (s : State) : KeepsBut ps s (l.foldl f s) := by
  induction l generalizing s with
  | nil => exact .refl ..
  | cons a l ih => exact (h s a).trans (ih _)

theorem keeps_ite {ps : List Part} {s a b : State} {p : Prop} [Decidable p] (ha : KeepsBut ps s a) (hb : KeepsBut ps s b) :
    KeepsBut ps s (if p then a else b) := by
  split <;> assumption

/-! ## The updates -/

theorem keeps_setChannel (s : State) (c : ChanNo) (r : Channel) : KeepsBut [.channels] s (s.setChannel c r) := by
  refine ⟨fun p hp => ?_⟩; cases p <;> simp_all [Part.same]

theorem keeps_setGroup (s : State) (g : GroupNo) (r : Group) : KeepsBut [.groups] s (s.setGroup g r) := by
  refine ⟨fun p hp => ?_⟩; cases p <;> simp_all [Part.same]

theorem keeps_setStrip (s : State) (n : StripNo) (r : Strip) : KeepsBut [.surface] s (s.setStrip n r) := by
  refine ⟨fun p hp => ?_⟩; cases p <;> simp_all [Part.same]

theorem keeps_setLink (s : State) (l : LinkNo) (r : Link) : KeepsBut [.links] s (s.setLink l r) := by
  refine ⟨fun p hp => ?_⟩; cases p <;> simp_all [Part.same]

theorem keeps_setSource (s : State) (src : Source) (r : SourceRecord) : KeepsBut [.faults] s (s.setSource src r) := by
  refine ⟨fun p hp => ?_⟩; cases p <;> simp_all [Part.same]

theorem keeps_hand (s : State) (es : List Instr) : KeepsBut [.handed] s (s.hand es) := by
  refine ⟨fun p hp => ?_⟩; cases p <;> simp_all [Part.same]

theorem keeps_take (s : State) (e : Instr) : KeepsBut [.handed] s (s.take e) := by
  refine ⟨fun p hp => ?_⟩; cases p <;> simp_all [Part.same]

theorem keeps_emit (s : State) (o : Outbound) : KeepsBut [.sent] s (s.emit o) := by
  refine ⟨fun p hp => ?_⟩; cases p <;> simp_all [Part.same]

theorem keeps_setMoves (s : State) (ms : List Move) : KeepsBut [.engine] s (s.setMoves ms) := by
  refine ⟨fun p hp => ?_⟩; cases p <;> simp_all [Part.same]

theorem keeps_setSeq (s : State) (q : Sequencer) : KeepsBut [.seq] s (s.setSeq q) := by
  refine ⟨fun p hp => ?_⟩; cases p <;> simp_all [Part.same]

theorem keeps_setSchedule (s : State) (ts : List Trigger) : KeepsBut [.seq] s (s.setSchedule ts) := by
  refine ⟨fun p hp => ?_⟩; cases p <;> simp_all [Part.same]

theorem keeps_setClock (s : State) (k : Clock) : KeepsBut [.clock] s (s.setClock k) := by
  refine ⟨fun p hp => ?_⟩; cases p <;> simp_all [Part.same]

/-- What an offer does to the port: the report queue and REPORT_LOST. -/
theorem Port.offer_frame (p : Port) (r : Report) :
    p.offer r =
      { p with reports := (p.offer r).reports, flags := { p.flags with reportLost := (p.offer r).flags.reportLost } } := by
  unfold Port.offer; split <;> rfl

theorem keeps_offer (s : State) (r : Report) : KeepsBut [.reports] s (s.offer r) := by
  refine ⟨fun p hp => ?_⟩
  cases p <;> simp_all [Part.same]
  exact Port.offer_frame _ _

/-! ## Levels and channels -/

/-- What work at a channel may change. -/
def levelParts : List Part := [.handed, .reports, .channels]

theorem keeps_level_setChannel (s : State) (c : ChanNo) (r : Channel) : KeepsBut levelParts s (s.setChannel c r) :=
  (keeps_setChannel s c r).mono (by simp [levelParts])

theorem keeps_level_hand (s : State) (es : List Instr) : KeepsBut levelParts s (s.hand es) :=
  (keeps_hand s es).mono (by simp [levelParts])

theorem announceSettling_keeps (c : ChanNo) (s : State) : KeepsBut levelParts s (announceSettling c s) :=
  ((keeps_offer s _).mono (by simp [levelParts])).trans (keeps_level_hand _ _)

theorem writeLevel_keeps (c : ChanNo) (g : Gain × Bool) (m goal : Int) (s : State) :
    KeepsBut levelParts s (writeLevel c g m goal s) := by
  unfold writeLevel; dsimp only; split
  · exact (keeps_level_setChannel ..).trans (announceSettling_keeps ..)
  · exact keeps_level_setChannel ..

theorem relevel_keeps (c : ChanNo) (s : State) : KeepsBut levelParts s (relevel c s) := by
  unfold relevel; dsimp only; split
  · exact .refl ..
  · exact writeLevel_keeps ..

theorem showMute_keeps (c : ChanNo) (s : State) : KeepsBut levelParts s (showMute c s) := by
  unfold showMute; dsimp only; split
  · exact .refl ..
  · split
    · exact (keeps_level_setChannel ..).trans (keeps_level_hand ..)
    · exact keeps_level_setChannel ..

theorem remute_keeps (c : ChanNo) (b : Bool) (s : State) : KeepsBut levelParts s (remute c b s) := by
  unfold remute; dsimp only; split
  · exact showMute_keeps ..
  · exact (showMute_keeps ..).trans (writeLevel_keeps ..)

theorem thaw_keeps (c : ChanNo) (s : State) : KeepsBut levelParts s (thaw c s) := writeLevel_keeps ..

theorem handTarget_keeps (c : ChanNo) (p : Position) (s : State) : KeepsBut levelParts s (handTarget c p s) := by
  unfold handTarget; split
  · exact keeps_level_hand ..
  · exact .refl ..

theorem reposition_keeps (c : ChanNo) (o : Owner) (p : Position) (s : State) :
    KeepsBut levelParts s (reposition c o p s) := by
  unfold reposition; dsimp only
  have h : KeepsBut levelParts s
      (if p = (s.channel c).pEff then s.setChannel c { s.channel c with owner := o, pEff := p }
        else handTarget c p (s.setChannel c { s.channel c with owner := o, pEff := p })) :=
    keeps_ite (keeps_level_setChannel ..) ((keeps_level_setChannel ..).trans (handTarget_keeps ..))
  split
  · exact h.trans (thaw_keeps ..)
  · split <;> rename_i h'
    · simpa [h'] using keeps_level_setChannel ..
    · simp only [if_neg h'] at h; simpa [h'] using h.trans (relevel_keeps ..)

theorem startGlide_keeps (c : ChanNo) (s : State) : KeepsBut levelParts s (startGlide c s) := by
  unfold startGlide; dsimp only; split <;> exact reposition_keeps ..

theorem startSafeGlide_keeps (c : ChanNo) (a : Position) (s : State) : KeepsBut levelParts s (startSafeGlide c a s) := by
  unfold startSafeGlide; dsimp only; split <;> exact reposition_keeps ..

theorem freeze_keeps (c : ChanNo) (s : State) : KeepsBut levelParts s (freeze c s) := reposition_keeps ..

theorem force_keeps (c : ChanNo) (a : Action) (s : State) : KeepsBut levelParts s (force c a s) := by
  unfold force; split
  · exact startSafeGlide_keeps ..
  · exact freeze_keeps ..

theorem touchChannel_keeps (c : ChanNo) (p : Position) (s : State) : KeepsBut levelParts s (touchChannel c p s) := by
  unfold touchChannel; dsimp only
  have h := (keeps_level_setChannel s c { s.channel c with pOp := p }).trans (reposition_keeps c .touched p _)
  split
  · exact h.trans (keeps_level_hand ..)
  · exact h

theorem operatorAt_keeps (c : ChanNo) (p : Position) (s : State) : KeepsBut levelParts s (operatorAt c p s) := by
  unfold operatorAt; dsimp only; split
  · exact (keeps_level_setChannel ..).trans (reposition_keeps ..)
  · exact .refl ..

theorem latch_keeps (c : ChanNo) (s : State) : KeepsBut levelParts s (latch c s) := reposition_keeps ..

theorem learnRelease_keeps (c : ChanNo) (s : State) : KeepsBut levelParts s (learnRelease c s) := by
  unfold learnRelease; dsimp only; split
  · exact latch_keeps ..
  · exact ((keeps_level_setChannel ..).trans (reposition_keeps ..)).trans (keeps_level_hand ..)

theorem releaseChannel_keeps (c : ChanNo) (b : Bool) (s : State) : KeepsBut levelParts s (releaseChannel c b s) := by
  unfold releaseChannel; dsimp only; split
  · split
    · exact (keeps_level_setChannel ..).trans (force_keeps ..)
    · split
      · exact (keeps_level_setChannel ..).trans (startGlide_keeps ..)
      · exact (keeps_level_setChannel ..).trans (learnRelease_keeps ..)
      · exact (keeps_level_setChannel ..).trans (latch_keeps ..)
  · exact .refl ..

theorem forcedUnder_keeps (c : ChanNo) (m : Forced) (a : Action) (s : State) :
    KeepsBut levelParts s (forcedUnder c m a s) := by
  unfold forcedUnder; split
  · exact startGlide_keeps ..
  · exact startGlide_keeps ..
  · exact freeze_keeps ..
  · split
    · exact startSafeGlide_keeps ..
    · exact .refl ..

theorem actionAtChannel_keeps (c : ChanNo) (a : Action) (s : State) : KeepsBut levelParts s (actionAtChannel c a s) := by
  unfold actionAtChannel; dsimp only; split
  · exact .refl ..
  · split
    · exact keeps_level_setChannel ..
    · exact (keeps_level_setChannel ..).trans (forcedUnder_keeps ..)
    · split
      · exact (keeps_level_setChannel ..).trans (force_keeps ..)
      · exact keeps_level_setChannel ..

theorem automationAt_keeps (c : ChanNo) (p : Position) (s : State) : KeepsBut levelParts s (automationAt c p s) := by
  unfold automationAt; dsimp only; split
  · exact (keeps_level_setChannel ..).trans (reposition_keeps ..)
  · exact keeps_level_setChannel ..

theorem workingTrimAt_keeps (c : ChanNo) (t : Trim) (s : State) : KeepsBut levelParts s (workingTrimAt c t s) := by
  unfold workingTrimAt; dsimp only; split
  · exact .refl ..
  · split
    · exact (keeps_level_setChannel ..).trans (reposition_keeps ..)
    · exact keeps_level_setChannel ..

theorem takeOverManual_keeps (c : ChanNo) (s : State) : KeepsBut levelParts s (takeOverManual c s) :=
  (keeps_level_setChannel ..).trans (reposition_keeps ..)

theorem answerStart_keeps (c : ChanNo) (s : State) : KeepsBut levelParts s (answerStart c s).2 := by
  unfold answerStart; dsimp only; split
  · exact .refl ..
  · exact takeOverManual_keeps ..
  · exact .refl ..

theorem directSet_keeps (c : ChanNo) (p : Position) (s : State) : KeepsBut levelParts s (directSet c p s) := by
  unfold directSet; split
  · exact (takeOverManual_keeps ..).trans (automationAt_keeps ..)
  · exact automationAt_keeps ..

theorem setOwnMute_keeps (c : ChanNo) (b : Bool) (s : State) : KeepsBut levelParts s (setOwnMute c b s) := by
  unfold setOwnMute; dsimp only; split
  · exact .refl ..
  · exact (keeps_level_setChannel ..).trans (remute_keeps ..)

theorem writeStaticTrim_keeps (c : ChanNo) (x : Int) (s : State) : KeepsBut levelParts s (writeStaticTrim c x s) := by
  unfold writeStaticTrim; dsimp only; split
  · exact .refl ..
  · exact (keeps_level_setChannel ..).trans (relevel_keeps ..)

theorem safeLevelEffect_keeps (c : ChanNo) (b : Action) (o : Owner) (a : Option Position) (s : State) :
    KeepsBut levelParts s (safeLevelEffect c b o a s) := by
  have hs := fun p => startSafeGlide_keeps c p s
  have hf := freeze_keeps c s
  have hr := KeepsBut.refl levelParts s
  cases b <;> try exact hr
  cases o <;> try exact hr
  rename_i m
  cases m <;> cases a <;> first | exact hr | exact hf | exact hs _

theorem writeSafeLevel_keeps (c : ChanNo) (a : Option Position) (s : State) :
    KeepsBut levelParts s (writeSafeLevel c a s) := by
  unfold writeSafeLevel; dsimp only; split
  · exact .refl ..
  · exact (keeps_level_setChannel ..).trans (safeLevelEffect_keeps ..)

theorem writeSafed_keeps (c : ChanNo) (b : Bool) (s : State) : KeepsBut levelParts s (writeSafed c b s) := by
  unfold writeSafed; dsimp only; split
  · exact (keeps_level_setChannel ..).trans (keeps_level_hand ..)
  · exact keeps_level_setChannel ..

theorem assignStrip_keeps (c : ChanNo) (n : StripNo) (s : State) : KeepsBut levelParts s (assignStrip c n s) :=
  (keeps_level_setChannel ..).trans (keeps_level_hand ..)

theorem releaseStrip_keeps (c : ChanNo) (n : StripNo) (s : State) : KeepsBut levelParts s (releaseStrip c n s) := by
  unfold releaseStrip; dsimp only; split
  · exact keeps_level_setChannel ..
  · exact .refl ..

theorem glideAdvance_keeps (c : ChanNo) (s : State) : KeepsBut levelParts s (glideAdvance c s) := by
  unfold glideAdvance; dsimp only; split
  · exact .refl ..
  · exact (keeps_ite (keeps_level_setChannel ..) ((keeps_level_setChannel ..).trans (handTarget_keeps ..))).trans
      (keeps_level_setChannel ..)

theorem offerLevel_keeps (c : ChanNo) (s : State) : KeepsBut levelParts s (offerLevel c s) :=
  (keeps_offer s _).mono (by simp [levelParts])

theorem handSettled_keeps (c : ChanNo) (s : State) : KeepsBut levelParts s (handSettled c s) := keeps_level_hand ..

theorem handOutput_keeps (c : ChanNo) (s : State) : KeepsBut levelParts s (handOutput c s) := keeps_level_hand ..

theorem handStep_keeps (c : ChanNo) (old : Channel) (s : State) : KeepsBut levelParts s (handStep c old s) := by
  by_cases h : (s.channel c).output = old.output
  · simp only [handStep, h, ne_eq, not_true_eq_false, decide_false, if_false, Bool.false_or]
    split
    · exact (offerLevel_keeps ..).trans (handSettled_keeps ..)
    · exact .refl ..
  · simp only [handStep, h, ne_eq, not_false_eq_true, decide_true, if_true, Bool.true_or, Bool.and_true]
    split
    · exact (handOutput_keeps ..).trans (offerLevel_keeps ..)
    · exact handOutput_keeps ..

theorem channelStep_keeps (c : ChanNo) (s : State) : KeepsBut levelParts s (channelStep c s) := by
  unfold channelStep; dsimp only; split
  · exact .refl ..
  · exact (glideAdvance_keeps ..).trans ((keeps_level_setChannel ..).trans (handStep_keeps ..))

end Sys2Proof.Machine
end

