-- ==== Sys2Proof/Laws/EngineFrames.lean ====
section
/-! SUPPORT. What the operations of the Trim Memory, the Group Table, the Move Engine, the Cue Store and the Cue Sequencer leave
alone. -/

namespace Sys2Proof.Machine

/-! ## Trims and groups -/

theorem setTrims_keeps (s : State) (m : TrimMemory) : KeepsBut [.handed, .trims] s (s.setTrims m) := by
  refine ⟨fun p hp => ?_⟩; cases p <;> simp_all [Part.same, State.setTrims]

/-- What work at the Group Table may change. -/
def groupParts : List Part := [.handed, .groups]

theorem writeMaster_keeps (g : GroupNo) (p : Position) (s : State) : KeepsBut groupParts s (writeMaster g p s) := by
  unfold writeMaster; dsimp only; split
  · exact .refl ..
  · exact ((keeps_setGroup ..).mono (by simp [groupParts])).trans ((keeps_hand ..).mono (by simp [groupParts]))

theorem writeMasterMute_keeps (g : GroupNo) (b : Bool) (s : State) : KeepsBut groupParts s (writeMasterMute g b s) := by
  unfold writeMasterMute; dsimp only; split
  · exact .refl ..
  · exact ((keeps_setGroup ..).mono (by simp [groupParts])).trans ((keeps_hand ..).mono (by simp [groupParts]))

theorem writeMembers_keeps (g : GroupNo) (cs : List ChanNo) (s : State) : KeepsBut groupParts s (writeMembers g cs s) :=
  ((keeps_setGroup ..).mono (by simp [groupParts])).trans ((keeps_hand ..).mono (by simp [groupParts]))

/-! ## The Move Engine -/

/-- What a target may change as it takes the engine's events and answers a start. -/
def targetParts : List Part := [.handed, .reports, .channels, .groups]

/-- What work at the Move Engine may change. -/
def engineParts : List Part := [.handed, .reports, .channels, .groups, .engine]

theorem KeepsBut.target_of_level {s t : State} (h : KeepsBut levelParts s t) : KeepsBut targetParts s t :=
  h.mono (by simp [levelParts, targetParts])

theorem KeepsBut.target_of_group {s t : State} (h : KeepsBut groupParts s t) : KeepsBut targetParts s t :=
  h.mono (by simp [groupParts, targetParts])

theorem KeepsBut.engine_of_target {s t : State} (h : KeepsBut targetParts s t) : KeepsBut engineParts s t :=
  h.mono (by simp [engineParts, targetParts])

theorem KeepsBut.engine_of_ends {s t : State} (h : KeepsBut [.reports, .engine] s t) : KeepsBut engineParts s t :=
  h.mono (by simp [engineParts])

theorem keeps_engine_hand (s : State) (es : List Instr) : KeepsBut engineParts s (s.hand es) :=
  (keeps_hand s es).mono (by simp [engineParts])

theorem keeps_engine_setMoves (s : State) (ms : List Move) : KeepsBut engineParts s (s.setMoves ms) :=
  (keeps_setMoves s ms).mono (by simp [engineParts])

theorem takeMoveEvent_keeps (e : Instr) (s : State) : KeepsBut targetParts s (takeMoveEvent e s) := by
  have ht : KeepsBut targetParts s (s.take e) := (keeps_take s e).mono (by simp [targetParts])
  unfold takeMoveEvent; split
  · exact ht.trans (automationAt_keeps ..).target_of_level
  · exact ht.trans (setOwnMute_keeps ..).target_of_level
  · exact ht.trans (writeMaster_keeps ..).target_of_group
  · exact ht.trans (writeMasterMute_keeps ..).target_of_group
  · exact .refl ..

theorem settleTarget_keeps (t : Target) (s : State) : KeepsBut targetParts s (settleTarget t s) :=
  keeps_foldl (fun s e => takeMoveEvent_keeps e s) _ s

theorem reportEnd_keeps (m : Move) (res : MoveResult) (p : Position) (s : State) :
    KeepsBut [.reports] s (reportEnd m res p s) := by
  unfold reportEnd; split
  · exact keeps_offer ..
  · exact .refl ..

theorem endWhere_keeps (p : Move → Bool) (res : MoveResult) (s : State) :
    KeepsBut [.reports, .engine] s (endWhere p res s) :=
  ((keeps_setMoves ..).mono (by simp)).trans (keeps_foldl (fun t m => (reportEnd_keeps m res _ t).mono (by simp)) _ _)

theorem takeOver_keeps (t : Target) (s : State) : KeepsBut [.reports, .engine] s (takeOver t s) := endWhere_keeps ..

theorem muteAtEnd_keeps (m : Move) (s : State) : KeepsBut engineParts s (muteAtEnd m s) := by
  unfold muteAtEnd; split
  · exact keeps_engine_hand ..
  · exact .refl ..

theorem unmuteAtStart_keeps (m : Move) (s : State) : KeepsBut engineParts s (unmuteAtStart m s) := by
  unfold unmuteAtStart; split
  · exact keeps_engine_hand ..
  · exact .refl ..

theorem reportEnd_keeps_engine (m : Move) (res : MoveResult) (p : Position) (s : State) :
    KeepsBut engineParts s (reportEnd m res p s) := (reportEnd_keeps ..).mono (by simp [engineParts])

theorem askStart_keeps (t : Target) (s : State) : KeepsBut targetParts s (askStart t s).2 := by
  unfold askStart; dsimp only; split
  · exact (settleTarget_keeps ..).trans (answerStart_keeps ..).target_of_level
  · exact settleTarget_keeps ..

theorem snap_keeps (m : Move) (p : Position) (res : MoveResult) (s : State) : KeepsBut engineParts s (snap m p res s) := by
  have h1 : KeepsBut engineParts s (if m.goal = p then s else s.hand [positionEvent m.target m.goal]) :=
    keeps_ite (.refl ..) (keeps_engine_hand ..)
  unfold snap
  exact (h1.trans (keeps_ite (muteAtEnd_keeps ..) (.refl ..))).trans (reportEnd_keeps_engine ..)

/-- A start that is answered: the answer's work, then the takeover and the unmute. -/
theorem started_keeps (m : Move) {s t : State} (h : KeepsBut targetParts s t) :
    KeepsBut engineParts s (unmuteAtStart m (takeOver m.target t)) :=
  (h.engine_of_target.trans (takeOver_keeps ..).engine_of_ends).trans (unmuteAtStart_keeps ..)

theorem startLoose_keeps (m : Move) (res : MoveResult) (s : State) : KeepsBut engineParts s (startLoose m res s) := by
  have h := askStart_keeps m.target s
  unfold startLoose; split
  · next heq => rw [heq] at h; exact h.engine_of_target.trans (reportEnd_keeps_engine ..)
  · next heq => rw [heq] at h; exact (started_keeps m h).trans (snap_keeps ..)

theorem startDue_keeps (s : State) : KeepsBut engineParts s (startDue s).2 := by
  unfold startDue; split
  · exact .refl ..
  · next m _ =>
    have h := askStart_keeps m.target s
    split
    · next heq =>
      rw [heq] at h
      exact (h.engine_of_target.trans (keeps_engine_setMoves ..)).trans (reportEnd_keeps_engine ..)
    · next heq =>
      rw [heq] at h
      dsimp only; split
      · exact ((started_keeps m h).trans (keeps_engine_setMoves ..)).trans (snap_keeps ..)
      · exact (started_keeps m h).trans (keeps_engine_setMoves ..)

theorem giveId_keeps (s : State) : KeepsBut engineParts s s.giveId := by
  refine ⟨fun p hp => ?_⟩; cases p <;> simp_all [Part.same, State.giveId, engineParts]

theorem makeMove_keeps (cue : Option Nat) (t : Target) (d n : Nat) (p : Position) (k : Curve) (a : MuteAction) (s : State) :
    KeepsBut engineParts s (makeMove cue t d n p k a s).2 := by
  have h := giveId_keeps s
  unfold makeMove; dsimp only
  generalize s.giveId = u at h ⊢
  split
  · exact h.trans (reportEnd_keeps_engine ..)
  · split
    · exact h.trans (startLoose_keeps ..)
    · split
      · split
        · have h3 := fun ms : List Move => (h.trans (keeps_engine_setMoves u ms)).trans (startDue_keeps (u.setMoves ms))
          split <;> rename_i heq <;> (
            have h4 := h3 (u.engine.moves ++
              [{ id := s.engine.nextId, cue := cue, target := t, phase := .waiting d, duration := n, goal := p, curve := k, mute := a }])
            rw [heq] at h4; exact h4)
        · exact h.trans (keeps_engine_setMoves ..)
      · exact h.trans (startLoose_keeps ..)

theorem keeps_foldl_snd {α β : Type} {ps : List Part} {f : β × State → α → β × State}
    (h : ∀ x a, KeepsBut ps x.2 (f x a).2) (l : List α) (x : β × State) : KeepsBut ps x.2 (l.foldl f x).2 := by
  induction l generalizing x with
  | nil => exact .refl ..
  | cons a l ih => exact (h x a).trans (ih _)

theorem fireRecord_keeps (n : Nat) (b : Option Nat) (r : MoveRecord) (s : State) :
    KeepsBut engineParts s (fireRecord n b r s).2 :=
  keeps_foldl_snd (f := fun (acc : Bool × State) t =>
    let made := makeMove (some n) t (if b.isSome then 0 else r.delay) (b.getD r.time) r.level r.curve r.mute acc.2
    (acc.1 || made.1 = .overflowed, made.2)) (fun _ _ => makeMove_keeps ..) _ (false, s)

theorem fireCue_keeps (n : Nat) (rs : List MoveRecord) (b : Option Nat) (s : State) :
    KeepsBut engineParts s (fireCue n rs b s) :=
  (keeps_foldl_snd (f := fun (acc : Bool × State) r =>
    let one := fireRecord n b r acc.2
    (acc.1 || one.1, one.2)) (fun _ _ => fireRecord_keeps ..) rs (false, s)).trans (keeps_engine_hand ..)

theorem requestOne_keeps (n : Nat) (p : Position) (k : Curve) (acc : Nat × Bool × State) (t : Target) :
    KeepsBut engineParts acc.2.2 (requestOne n p k acc t).2.2 := by
  have hm := makeMove_keeps none t 0 n p k .none acc.2.2
  unfold requestOne; dsimp only; split
  · split
    · exact (directSet_keeps ..).target_of_level.engine_of_target
    · exact hm
  · exact hm

theorem requestMoves_keeps (ts : List Target) (n : Nat) (p : Position) (k : Curve) (s : State) :
    KeepsBut engineParts s (requestMoves ts n p k s).2 := by
  have h : ∀ (ts : List Target) (acc : Nat × Bool × State),
      KeepsBut engineParts acc.2.2 (ts.foldl (requestOne n p k) acc).2.2 := by
    intro ts
    induction ts with
    | nil => intro acc; exact .refl ..
    | cons t ts ih => intro acc; exact (requestOne_keeps ..).trans (ih _)
  exact keeps_ite ((h ts (0, false, s)).trans (keeps_engine_hand ..)) (h ts (0, false, s))

theorem yieldChannel_keeps (c : ChanNo) (s : State) : KeepsBut engineParts s (yieldChannel c s) :=
  (endWhere_keeps ..).engine_of_ends.trans (keeps_engine_setMoves ..)

theorem makeChannelSafe_keeps (c : ChanNo) (s : State) : KeepsBut [.reports, .engine] s (makeChannelSafe c s) :=
  endWhere_keeps ..

theorem startAllDue_keeps (n : Nat) (acc : List Target × State) : KeepsBut engineParts acc.2 (startAllDue n acc).2 := by
  induction n generalizing acc with
  | zero => exact .refl ..
  | succ n ih => exact (startDue_keeps acc.2).trans (ih ((startDue acc.2).1.toList ++ acc.1, (startDue acc.2).2))

theorem advanceEffects_keeps (ts : List Target) (s : State) (m : Move) :
    KeepsBut engineParts s (advanceEffects ts s m) := by
  unfold advanceEffects; split
  · split
    · next e p _ =>
      have h : KeepsBut engineParts s
          (if m.positionAt p (e + 1) = m.positionAt p e then s
            else s.hand [positionEvent m.target (m.positionAt p (e + 1))]) :=
        keeps_ite (.refl ..) (keeps_engine_hand ..)
      exact keeps_ite ((h.trans (muteAtEnd_keeps ..)).trans (reportEnd_keeps_engine ..)) h
    · exact .refl ..
  · exact .refl ..

theorem advanceAll_keeps (ts : List Target) (s : State) : KeepsBut engineParts s (advanceAll ts s) :=
  (keeps_engine_setMoves ..).trans (keeps_foldl (fun s m => advanceEffects_keeps ts s m) _ _)

theorem engineStep_keeps (s : State) : KeepsBut engineParts s (engineStep s) := by
  unfold engineStep; split
  · exact .refl ..
  · exact ((keeps_engine_setMoves s _).trans (startAllDue_keeps _ ([], s.setMoves (s.engine.moves.map Move.countDown)))).trans
      (advanceAll_keeps ..)

/-! ## The Cue Store and the Cue Sequencer -/

/-- What an edit of the list may change. -/
def listParts : List Part := [.handed, .store]

theorem editList_keeps (cs : List Cue) (e : Edit) (s : State) : KeepsBut listParts s (editList cs e s) := by
  refine ⟨fun p hp => ?_⟩; cases p <;> simp_all [Part.same, editList, listParts]

theorem commitCue_keeps (c : Cue) (s : State) : KeepsBut listParts s (commitCue c s) := by
  refine ⟨fun p hp => ?_⟩; cases p <;> simp_all [Part.same, commitCue, editList, listParts]

/-- What work at the Cue Sequencer may change. -/
def playParts : List Part := [.handed, .reports, .seq]

theorem keeps_play_hand (s : State) (es : List Instr) : KeepsBut playParts s (s.hand es) :=
  (keeps_hand s es).mono (by simp [playParts])

theorem keeps_play_offer (s : State) (r : Report) : KeepsBut playParts s (s.offer r) :=
  (keeps_offer s r).mono (by simp [playParts])

theorem keeps_play_setSeq (s : State) (q : Sequencer) : KeepsBut playParts s (s.setSeq q) :=
  (keeps_setSeq s q).mono (by simp [playParts])

theorem keeps_play_setSchedule (s : State) (ts : List Trigger) : KeepsBut playParts s (s.setSchedule ts) :=
  (keeps_setSchedule s ts).mono (by simp [playParts])

theorem fire_keeps (c : Cue) (k : Cause) (n : Nat) (s : State) : KeepsBut playParts s (fire c k n s) :=
  (((keeps_play_hand ..).trans (keeps_ite (keeps_play_hand ..) (.refl ..))).trans (keeps_play_setSeq ..)).trans
    (keeps_play_offer ..)

theorem fireBack_keeps (c : Cue) (n : Nat) (s : State) : KeepsBut playParts s (fireBack c n s) :=
  ((keeps_play_hand ..).trans (keeps_play_setSeq ..)).trans (keeps_play_offer ..)

theorem enterHeld_keeps (s : State) : KeepsBut playParts s (enterHeld s) := by
  unfold enterHeld; split
  · exact .refl ..
  · exact (keeps_play_setSeq ..).trans (keeps_play_hand ..)

theorem expireFollow_keeps (n : Nat) (s : State) : KeepsBut playParts s (expireFollow n s) := by
  unfold expireFollow; dsimp only; split
  · exact (keeps_play_setSeq ..).trans (fire_keeps ..)
  · exact (keeps_play_setSeq ..).trans (keeps_play_setSeq ..)

theorem countFollow_keeps (n : Nat) (s : State) : KeepsBut playParts s (countFollow n s) := by
  unfold countFollow; split
  · exact .refl ..
  · split
    · exact expireFollow_keeps ..
    · exact keeps_play_setSeq ..

theorem fireTrigger_keeps (k : Cause) (b : Bool) (n : Nat) (t : Trigger) (s : State) :
    KeepsBut playParts s (fireTrigger k b n t s) := by
  unfold fireTrigger; split
  · exact (keeps_ite (keeps_play_offer ..) (.refl ..)).trans (fire_keeps ..)
  · exact keeps_play_offer ..

theorem examineSchedule_keeps (n : Nat) (s : State) : KeepsBut playParts s (examineSchedule n s) := by
  unfold examineSchedule; split
  · exact keeps_play_setSchedule ..
  · exact (keeps_play_setSchedule ..).trans (keeps_foldl (fun s t => fireTrigger_keeps ..) _ _)

theorem sequencerStep_keeps (n : Nat) (s : State) : KeepsBut playParts s (sequencerStep n s) :=
  (keeps_ite (.refl ..) (countFollow_keeps ..)).trans (examineSchedule_keeps ..)

theorem endHold_keeps (s : State) : KeepsBut playParts s (endHold s).2 :=
  ((keeps_play_setSeq ..).trans (keeps_play_hand ..)).trans (keeps_foldl (fun _ _ => fireTrigger_keeps ..) _ _)

theorem jumpShowTime_keeps (a b : Nat) (s : State) : KeepsBut playParts s (jumpShowTime a b s) := by
  unfold jumpShowTime; split
  · exact (keeps_play_setSchedule ..).trans (keeps_foldl (fun _ _ => keeps_play_offer ..) _ _)
  · exact .refl ..

end Sys2Proof.Machine
end

