-- ==== Sys2Proof/Laws/BlockFrames.lean ====
section
/-! SUPPORT. What the operations of the Surface Controller, the Gain Link Controller, the Show Clock and the Fault Monitor leave
alone. -/

namespace Sys2Proof.Machine

/-! ## The Surface Controller -/

/-- What work at the Surface Controller may change. -/
def surfaceParts : List Part := [.handed, .reports, .surface]

theorem keeps_surface_setStrip (s : State) (n : StripNo) (r : Strip) : KeepsBut surfaceParts s (s.setStrip n r) :=
  (keeps_setStrip s n r).mono (by simp [surfaceParts])

theorem keeps_surface_hand (s : State) (es : List Instr) : KeepsBut surfaceParts s (s.hand es) :=
  (keeps_hand s es).mono (by simp [surfaceParts])

theorem keeps_surface_offer (s : State) (r : Report) : KeepsBut surfaceParts s (s.offer r) :=
  (keeps_offer s r).mono (by simp [surfaceParts])

theorem keeps_surface_set (s : State) (x : Surface) : KeepsBut surfaceParts s { s with surface := x } := by
  refine ⟨fun p hp => ?_⟩; cases p <;> simp_all [Part.same, surfaceParts]

theorem reportStrip_keeps (n : StripNo) (o : StripState) (s : State) : KeepsBut surfaceParts s (reportStrip n o s) :=
  keeps_surface_offer ..

theorem reportTouch_keeps (n : StripNo) (a b : Bool) (s : State) : KeepsBut surfaceParts s (reportTouch n a b s) :=
  keeps_surface_offer ..

theorem motorGood_keeps (s : State) : KeepsBut surfaceParts s (motorGood s) := keeps_ite (.refl ..) (keeps_surface_hand ..)

theorem giveUp_keeps (n : StripNo) (s : State) : KeepsBut surfaceParts s (giveUp n s) := by
  unfold giveUp; split
  · exact keeps_ite ((keeps_surface_setStrip ..).trans (keeps_surface_hand ..)) (.refl ..)
  · exact .refl ..

theorem takeDue_keeps (n : StripNo) (s : State) : KeepsBut surfaceParts s (takeDue n s) := by
  unfold takeDue; split
  · exact keeps_ite ((keeps_surface_setStrip ..).trans (keeps_surface_hand ..)) (.refl ..)
  · exact .refl ..

theorem assignmentPass_keeps (s : State) : KeepsBut surfaceParts s (assignmentPass s) :=
  (keeps_foldl (fun s n => giveUp_keeps n s) _ s).trans (keeps_foldl (fun s n => takeDue_keeps n s) _ _)

theorem declareTouch_keeps (n : StripNo) (b : Bool) (s : State) : KeepsBut surfaceParts s (declareTouch n b s) := by
  unfold declareTouch; dsimp only; split
  · exact ((keeps_surface_setStrip ..).trans (keeps_surface_hand ..)).trans (reportTouch_keeps ..)
  · exact (keeps_surface_setStrip ..).trans (reportTouch_keeps ..)

theorem declareRelease_keeps (n : StripNo) (b : Bool) (s : State) : KeepsBut surfaceParts s (declareRelease n b s) := by
  have h : ∀ u, KeepsBut surfaceParts s u → KeepsBut surfaceParts s
      (assignmentPass ((reportTouch n true b u).setStrip n
        { (reportTouch n true b u).strip n with state := (s.strip n).driven })) :=
    fun u h => ((h.trans (reportTouch_keeps n true b u)).trans (keeps_surface_setStrip ..)).trans (assignmentPass_keeps _)
  exact h _ (by split <;> [exact keeps_surface_hand ..; exact .refl ..])

theorem leaveCalibration_keeps (n : StripNo) (b : Bool) (s : State) : KeepsBut surfaceParts s (leaveCalibration n b s) := by
  have h : ∀ st, KeepsBut surfaceParts s (if b then reportStrip n (s.strip n).state (s.setStrip n st) else s.setStrip n st) :=
    fun st => keeps_ite ((keeps_surface_setStrip ..).trans (reportStrip_keeps ..)) (keeps_surface_setStrip ..)
  unfold leaveCalibration; dsimp only
  exact keeps_ite (h _) ((h _).trans (assignmentPass_keeps _))

theorem endCalibration_keeps (n : StripNo) (cal : Calibration) (res : CalResult) (s : State) :
    KeepsBut surfaceParts s (endCalibration n cal res s) := by
  unfold endCalibration; dsimp only; split
  · exact keeps_ite (((keeps_surface_setStrip ..).trans (leaveCalibration_keeps ..)).trans (motorGood_keeps ..))
      (((keeps_surface_setStrip ..).trans (keeps_surface_setStrip ..)).trans (reportStrip_keeps ..))
  · exact (keeps_surface_setStrip ..).trans (leaveCalibration_keeps ..)

theorem abortCalibration_keeps (n : StripNo) (cal : Calibration) (s : State) :
    KeepsBut surfaceParts s (abortCalibration n cal s) := (keeps_surface_setStrip ..).trans (reportStrip_keeps ..)

theorem checkCalibration_keeps (n : StripNo) (cal : Calibration) (raw : Nat) (s : State) :
    KeepsBut surfaceParts s (checkCalibration n cal raw s) :=
  keeps_ite ((keeps_surface_setStrip ..).trans (endCalibration_keeps ..)) (endCalibration_keeps ..)

theorem calibrationScan_keeps (n : StripNo) (cal : Calibration) (raw : Nat) (s : State) :
    KeepsBut surfaceParts s (calibrationScan n cal raw s) := by
  unfold calibrationScan; split
  · exact .refl ..
  · split
    · exact checkCalibration_keeps ..
    · exact keeps_ite ((keeps_surface_setStrip ..).trans (endCalibration_keeps ..)) (keeps_surface_setStrip ..)

theorem scanPosition_keeps (n : StripNo) (raw : Nat) (s : State) : KeepsBut surfaceParts s (scanPosition n raw s) := by
  unfold scanPosition; dsimp only; split
  · exact keeps_ite ((keeps_surface_setStrip ..).trans (keeps_surface_hand ..)) (keeps_surface_setStrip ..)
  · exact keeps_surface_setStrip ..

theorem scanTouch_keeps (n : StripNo) (k : Nat) (s : State) : KeepsBut surfaceParts s (scanTouch n k s) := by
  have h := keeps_surface_setStrip s n ((s.strip n).sensed s.surface.settings k)
  unfold scanTouch; dsimp only; split
  · exact keeps_ite (h.trans (declareTouch_keeps ..)) h
  · exact keeps_ite (h.trans (declareTouch_keeps ..)) h
  · exact keeps_ite (h.trans (declareRelease_keeps ..)) h
  · exact keeps_ite (h.trans (keeps_surface_setStrip ..)) h
  · exact keeps_ite (keeps_ite (h.trans (leaveCalibration_keeps ..)) h) (keeps_ite (h.trans (abortCalibration_keeps ..)) h)
  · exact h

theorem seekOn_keeps (n : StripNo) (k : Nat) (s : State) : KeepsBut surfaceParts s (seekOn n k s) := by
  unfold seekOn; dsimp only
  exact keeps_ite (keeps_surface_setStrip ..) (keeps_ite (keeps_surface_setStrip ..)
    (((keeps_surface_setStrip ..).trans (keeps_surface_hand ..)).trans (reportStrip_keeps ..)))

theorem driftOn_keeps (n : StripNo) (k : Nat) (t : Position) (s : State) : KeepsBut surfaceParts s (driftOn n k t s) := by
  unfold driftOn; dsimp only
  exact keeps_ite (keeps_surface_setStrip ..) (keeps_ite (keeps_surface_setStrip ..) (declareTouch_keeps ..))

theorem scanMotor_keeps (n : StripNo) (raw : Nat) (b : Bool) (s : State) : KeepsBut surfaceParts s (scanMotor n raw b s) := by
  unfold scanMotor; dsimp only; split
  · split
    · exact .refl ..
    · exact keeps_ite (keeps_surface_setStrip ..) (seekOn_keeps ..)
  · split
    · exact .refl ..
    · exact driftOn_keeps ..
  · exact keeps_ite (keeps_surface_setStrip ..) (keeps_ite (keeps_surface_setStrip ..) (declareRelease_keeps ..))
  · exact calibrationScan_keeps ..
  · exact .refl ..

theorem readBus_keeps (n : StripNo) (raw : Fin 4096) (k : Byte) (s : State) : KeepsBut surfaceParts s (readBus n raw k s) :=
  (keeps_surface_set ..).trans (keeps_surface_setStrip ..)

theorem scanStrip_keeps (n : StripNo) (raw : Fin 4096) (k : Byte) (s : State) :
    KeepsBut surfaceParts s (scanStrip n raw k s) :=
  keeps_ite ((((readBus_keeps ..).trans (scanPosition_keeps ..)).trans (scanTouch_keeps ..)).trans (scanMotor_keeps ..))
    (.refl ..)

theorem surfaceStep_keeps (time : Nat) (s : State) : KeepsBut surfaceParts s (surfaceStep time s) :=
  keeps_ite (keeps_surface_set ..) (keeps_surface_set ..)

/-- What a clock step leaves of a strip (R141). -/
theorem surfaceStep_strip (time : Nat) (s : State) (n : StripNo) :
    (surfaceStep time s).strip n =
      if s.surface.halfStep = true ∧ s.surface.settings.inRange n = true then
        { s.strip n with owed := (s.strip n).owed + 1 }
      else s.strip n := by
  unfold surfaceStep
  cases h : s.surface.halfStep <;> simp [State.strip]

theorem surfaceStep_surface (time : Nat) (s : State) :
    (surfaceStep time s).surface =
      { s.surface with strips := (surfaceStep time s).surface.strips, halfStep := !s.surface.halfStep } := by
  unfold surfaceStep
  cases h : s.surface.halfStep <;> simp

theorem motorTargetAt_keeps (n : StripNo) (c : ChanNo) (p : Position) (s : State) :
    KeepsBut surfaceParts s (motorTargetAt n c p s) := keeps_ite (keeps_surface_setStrip ..) (.refl ..)

theorem lampAt_keeps (n : StripNo) (c : ChanNo) (b : Bool) (s : State) : KeepsBut surfaceParts s (lampAt n c b s) :=
  keeps_ite (keeps_surface_setStrip ..) (.refl ..)

theorem selectBank_keeps (b : BankNo) (s : State) : KeepsBut surfaceParts s (selectBank b s) :=
  (keeps_surface_set ..).trans (assignmentPass_keeps _)

theorem releaseLeaving_keeps (n : StripNo) (s : State) : KeepsBut surfaceParts s (releaseLeaving n s) := by
  unfold releaseLeaving; dsimp only; split
  · exact (keeps_surface_hand ..).trans (reportTouch_keeps ..)
  · exact .refl ..

theorem leaveRange_keeps (n : StripNo) (s : State) : KeepsBut surfaceParts s (leaveRange n s) := by
  have h : ∀ u, KeepsBut surfaceParts s u → KeepsBut surfaceParts s
      (let v := reportStrip n (s.strip n).state
        (u.setStrip n { s.strip n with state := .absent, channel := none, target := none, lamp := false, owed := 0 })
      if (s.strip n).motorCondition then motorGood v else v) := fun u h =>
    have k := (h.trans (keeps_surface_setStrip u n _)).trans (reportStrip_keeps ..)
    keeps_ite (k.trans (motorGood_keeps _)) k
  exact h _ (by split <;> [exact (releaseLeaving_keeps ..).trans (keeps_surface_hand ..); exact releaseLeaving_keeps ..])

theorem enterRange_keeps (n : StripNo) (s : State) : KeepsBut surfaceParts s (enterRange n s) :=
  (keeps_surface_setStrip ..).trans (reportStrip_keeps ..)

theorem rangeChangeAt_keeps (x : SurfaceSettings) (s : State) (n : StripNo) :
    KeepsBut surfaceParts s (rangeChangeAt x s n) := by
  unfold rangeChangeAt; split
  · exact leaveRange_keeps ..
  · exact enterRange_keeps ..
  · exact .refl ..

theorem writeSettings_keeps (x : SurfaceSettings) (s : State) : KeepsBut surfaceParts s (writeSettings x s) :=
  keeps_ite (keeps_surface_set ..)
    (((keeps_surface_set ..).trans (keeps_foldl (fun s n => rangeChangeAt_keeps _ s n) _ _)).trans (assignmentPass_keeps _))

theorem startCalibration_keeps (n : StripNo) (s : State) : KeepsBut surfaceParts s (startCalibration n s) :=
  keeps_surface_setStrip ..

/-! ## The Gain Link Controller -/

/-- What work at the Gain Link Controller may change. -/
def linkParts : List Part := [.handed, .reports, .sent, .links]

theorem keeps_link_setLink (s : State) (l : LinkNo) (r : Link) : KeepsBut linkParts s (s.setLink l r) :=
  (keeps_setLink s l r).mono (by simp [linkParts])

theorem keeps_link_hand (s : State) (es : List Instr) : KeepsBut linkParts s (s.hand es) :=
  (keeps_hand s es).mono (by simp [linkParts])

theorem keeps_link_emit (s : State) (o : Outbound) : KeepsBut linkParts s (s.emit o) :=
  (keeps_emit s o).mono (by simp [linkParts])

theorem reportLink_keeps (l : LinkNo) (o : LinkState) (s : State) : KeepsBut linkParts s (reportLink l o s) :=
  keeps_ite (.refl ..) ((keeps_offer ..).mono (by simp [linkParts]))

theorem beginTraining_keeps (l : LinkNo) (s : State) : KeepsBut linkParts s (beginTraining l s) :=
  (keeps_link_setLink ..).trans (keeps_link_emit ..)

theorem helloUnansweredAt_keeps (l : LinkNo) (s : State) : KeepsBut linkParts s (helloUnansweredAt l s) :=
  ((keeps_link_setLink ..).trans (beginTraining_keeps ..)).trans (keeps_link_hand ..)

theorem loseKeepalive_keeps (l : LinkNo) (s : State) : KeepsBut linkParts s (loseKeepalive l s) :=
  (((keeps_link_setLink ..).trans (beginTraining_keeps ..)).trans (keeps_link_hand ..)).trans (reportLink_keeps ..)

theorem enterUp_keeps (l : LinkNo) (s : State) : KeepsBut linkParts s (enterUp l s) :=
  (((keeps_link_setLink ..).trans (keeps_link_emit ..)).trans (keeps_link_hand ..)).trans (reportLink_keeps ..)

theorem readyAt_keeps (l : LinkNo) (s : State) : KeepsBut linkParts s (readyAt l s) := by
  unfold readyAt; split
  · exact enterUp_keeps ..
  · exact enterUp_keeps ..
  · exact .refl ..

theorem acknowledgementAt_keeps (l : LinkNo) (s : State) : KeepsBut linkParts s (acknowledgementAt l s) := by
  unfold acknowledgementAt; split
  · exact keeps_link_setLink ..
  · exact .refl ..

theorem stepKeepalive_keeps (l : LinkNo) (k : Nat) (s : State) : KeepsBut linkParts s (stepKeepalive l k s).2 := by
  unfold stepKeepalive; split
  · exact keeps_link_emit ..
  · exact .refl ..

theorem linkStep_keeps (l : LinkNo) (s : State) : KeepsBut linkParts s (linkStep l s) := by
  unfold linkStep; dsimp only; split
  · exact .refl ..
  · exact keeps_ite (helloUnansweredAt_keeps ..) (keeps_link_setLink ..)
  · exact keeps_ite (helloUnansweredAt_keeps ..) (keeps_link_setLink ..)
  · exact keeps_ite ((stepKeepalive_keeps ..).trans (loseKeepalive_keeps ..))
      ((stepKeepalive_keeps ..).trans (keeps_link_setLink ..))

theorem sourceTrippedAt_keeps (l : LinkNo) (s : State) : KeepsBut linkParts s (sourceTrippedAt l s) :=
  (keeps_link_setLink ..).trans (reportLink_keeps ..)

theorem sourceClearedAt_keeps (l : LinkNo) (s : State) : KeepsBut linkParts s (sourceClearedAt l s) :=
  (keeps_link_setLink ..).trans (reportLink_keeps ..)

theorem engineMessage_keeps (l : LinkNo) (m : List Byte) (s : State) : KeepsBut linkParts s (engineMessage l m s) :=
  keeps_ite (readyAt_keeps ..) (keeps_ite (acknowledgementAt_keeps ..) (.refl ..))

theorem gainChangedAt_keeps (l : LinkNo) (c : ChanNo) (o : Gain) (b : Bool) (s : State) :
    KeepsBut linkParts s (gainChangedAt l c o b s) := keeps_ite (keeps_link_setLink ..) (.refl ..)

theorem channelSettledAt_keeps (l : LinkNo) (c : ChanNo) (o : Gain) (s : State) :
    KeepsBut linkParts s (channelSettledAt l c o s) := keeps_ite (keeps_link_setLink ..) (.refl ..)

theorem refreshSlots_keeps (k : LinkNo) (slots : List Slot) (s : State) : KeepsBut linkParts s (refreshSlots k slots s) :=
  keeps_link_setLink ..

theorem writeMap_keeps (l : LinkNo) (es : List (Slot × Option ChanNo)) (s : State) : KeepsBut linkParts s (writeMap l es s) :=
  (keeps_link_setLink ..).trans (keeps_foldl (fun s k => refreshSlots_keeps k _ s) _ _)

theorem disableLink_keeps (l : LinkNo) (s : State) : KeepsBut linkParts s (disableLink l s) :=
  keeps_ite (.refl ..) ((keeps_link_setLink ..).trans (reportLink_keeps ..))

theorem enableLink_keeps (l : LinkNo) (s : State) : KeepsBut linkParts s (enableLink l s) :=
  keeps_ite ((beginTraining_keeps ..).trans (reportLink_keeps ..)) (.refl ..)

theorem enableEffect_keeps (l : LinkNo) (a b : Bool) (s : State) : KeepsBut linkParts s (enableEffect l a b s) :=
  keeps_ite (.refl ..) (keeps_ite (enableLink_keeps ..) (disableLink_keeps ..))

theorem marksEffect_keeps (l : LinkNo) (s : State) : KeepsBut linkParts s (marksEffect l s) :=
  keeps_ite (keeps_link_setLink ..) (.refl ..)

theorem mirrorEffect_keeps (l : LinkNo) (m : Option LinkNo) (s : State) : KeepsBut linkParts s (mirrorEffect l m s) :=
  keeps_ite (refreshSlots_keeps ..) (.refl ..)

theorem writeLink_keeps (l : LinkNo) (b : Bool) (h w d : Nat) (m : Option LinkNo) (s : State) :
    KeepsBut linkParts s (writeLink l b h w d m s) :=
  (((keeps_link_setLink ..).trans (enableEffect_keeps ..)).trans (marksEffect_keeps ..)).trans (mirrorEffect_keeps ..)

/-! ## The Show Clock -/

/-- What work at the Show Clock may change. -/
def clockParts : List Part := [.handed, .reports, .clock]

theorem keeps_clock_setClock (s : State) (k : Clock) : KeepsBut clockParts s (s.setClock k) :=
  (keeps_setClock s k).mono (by simp [clockParts])

theorem keeps_clock_hand (s : State) (es : List Instr) : KeepsBut clockParts s (s.hand es) :=
  (keeps_hand s es).mono (by simp [clockParts])

theorem reportClock_keeps (o : LockState) (s : State) : KeepsBut clockParts s (reportClock o s) :=
  keeps_ite (.refl ..) ((keeps_offer ..).mono (by simp [clockParts]))

theorem enterLost_keeps (s : State) : KeepsBut clockParts s (enterLost s) :=
  ((keeps_clock_setClock ..).trans (keeps_clock_hand ..)).trans (reportClock_keeps ..)

theorem enterHoldover_keeps (s : State) : KeepsBut clockParts s (enterHoldover s) :=
  (keeps_clock_setClock ..).trans (reportClock_keeps ..)

theorem passHoldover_keeps (e n : Nat) (s : State) : KeepsBut clockParts s (passHoldover e n s) :=
  keeps_ite (((keeps_clock_setClock ..).trans (enterLost_keeps ..)).trans (keeps_clock_setClock ..)) (keeps_clock_setClock ..)

theorem passLocked_keeps (e n : Nat) (s : State) : KeepsBut clockParts s (passLocked e n s) :=
  keeps_ite (((keeps_clock_setClock ..).trans (enterHoldover_keeps ..)).trans (passHoldover_keeps ..)) (keeps_clock_setClock ..)

theorem passTime_keeps (n : Nat) (s : State) : KeepsBut clockParts s (passTime n s) := by
  unfold passTime; split
  · exact passLocked_keeps ..
  · exact passHoldover_keeps ..
  · exact keeps_clock_setClock ..

@[simp] theorem Clock.run_now (dt : Nat) (k : Clock) : (k.run dt).now = k.now + dt := by unfold Clock.run; dsimp only; split <;> rfl

/-- The end of the running interval is the first microsecond at which it is over. -/
theorem Clock.toStep_bounds (k : Clock) (h : k.carry < 1000000000) (hp : 0 < speedAt k.pace) :
    1000000000 ≤ k.carry + k.toStep * speedAt k.pace ∧ k.carry + k.toStep * speedAt k.pace < 1000000000 + speedAt k.pace := by
  have a := Nat.div_add_mod (1000000000 - k.carry + speedAt k.pace - 1) (speedAt k.pace)
  have b := Nat.mod_lt (1000000000 - k.carry + speedAt k.pace - 1) hp
  rw [Nat.mul_comm] at a
  unfold Clock.toStep; omega

theorem Clock.tick_eq (k : Clock) :
    k.tick =
      if k.carry + speedAt k.pace < 1000000000 then { k with now := k.now + 1, carry := k.carry + speedAt k.pace }
      else { k with now := k.now + 1, carry := k.carry + speedAt k.pace - 1000000000, due := k.due + 1, pace := k.rho } := rfl

/-- One microsecond more of a span. -/
theorem Clock.run_succ (k : Clock) (dt : Nat) (h : k.carry < 1000000000) (hp : 0 < speedAt k.pace)
    (hp' : speedAt k.pace ≤ 1000000000) (hr : speedAt k.rho ≤ 1000000000) : k.run (dt + 1) = (k.run dt).tick := by
  obtain ⟨lo, hi⟩ := k.toStep_bounds h hp
  have e : (dt + 1) * speedAt k.pace = dt * speedAt k.pace + speedAt k.pace := Nat.succ_mul ..
  unfold Clock.run
  rcases Nat.lt_or_ge (k.carry + dt * speedAt k.pace) 1000000000 with h1 | h1
  · rw [if_pos h1]
    rcases Nat.lt_or_ge (k.carry + (dt + 1) * speedAt k.pace) 1000000000 with h2 | h2
    · rw [if_pos h2]
      rw [Clock.tick_eq]; dsimp only
      rw [if_pos (by omega)]
      simp only [Clock.mk.injEq, true_and, and_true]; omega
    · have hn : k.toStep = dt + 1 := by
        have l : dt < k.toStep := Nat.lt_of_mul_lt_mul_right (a := speedAt k.pace) (by omega)
        have u : k.toStep < dt + 1 + 1 := Nat.lt_of_mul_lt_mul_right (a := speedAt k.pace) (by rw [Nat.succ_mul (dt + 1)]; omega)
        omega
      rw [if_neg (Nat.not_lt.mpr h2)]
      rw [Clock.tick_eq]; dsimp only
      rw [if_neg (by omega), hn, Nat.sub_self, Nat.zero_mul]
      simp only [Clock.mk.injEq, true_and]; omega
  · have hn : k.toStep < dt + 1 := Nat.lt_of_mul_lt_mul_right (a := speedAt k.pace) (by omega)
    rw [if_neg (Nat.not_lt.mpr h1), if_neg (by omega), show dt + 1 - k.toStep = dt - k.toStep + 1 by omega, Nat.succ_mul]
    rw [Clock.tick_eq]; dsimp only
    generalize k.carry + k.toStep * speedAt k.pace - 1000000000 = x, (dt - k.toStep) * speedAt k.rho = y
    split <;> simp only [Clock.mk.injEq, true_and] <;> omega

/-- A span of microseconds for the pace is its microseconds one after the other (R131). -/
theorem Clock.run_eq_ticks (k : Clock) (h : k.carry < 1000000000) (hp : 0 < speedAt k.pace)
    (hp' : speedAt k.pace ≤ 1000000000) (hr : speedAt k.rho ≤ 1000000000) (dt : Nat) : k.run dt = k.ticks dt := by
  induction dt with
  | zero => simp only [Clock.run, Clock.ticks, Nat.zero_mul, Nat.add_zero, if_pos h]
  | succ dt ih => rw [k.run_succ dt h hp hp' hr, ih, Clock.ticks]

/-- Microseconds after microseconds. -/
theorem Clock.ticks_add (k : Clock) (a b : Nat) : k.ticks (a + b) = (k.ticks a).ticks b := by
  induction b with
  | zero => rfl
  | succ b ih => rw [Nat.add_succ, Clock.ticks, ih, Clock.ticks]

/-- A report changes nothing of the clock. -/
@[simp] theorem reportClock_clock (o : LockState) (s : State) : (reportClock o s).clock = s.clock := by
  dsimp only [reportClock]; split <;> rfl

@[simp] theorem enterLost_clock (s : State) : (enterLost s).clock = s.clock.toLost := by simp only [enterLost, reportClock_clock]; rfl

@[simp] theorem enterHoldover_clock (s : State) : (enterHoldover s).clock = { s.clock with lock := .holdover 0 } := by
  simp only [enterHoldover, reportClock_clock]; rfl

/-- The clock after time has passed in HOLDOVER: no limit passed, or LOST from the limit on (R134). -/
theorem passHoldover_clock (elapsed dt : Nat) (s : State) :
    (passHoldover elapsed dt s).clock =
      if Config.holdoverLimit - elapsed < dt then
        (s.clock.run (Config.holdoverLimit - elapsed)).toLost.run (dt - (Config.holdoverLimit - elapsed))
      else { s.clock.run dt with lock := .holdover (elapsed + dt) } := by
  dsimp only [passHoldover]; split
  · simp only [runClock, State.setClock_clock, enterLost_clock]
  · rfl

/-- The clock after time has passed in LOCKED: no limit passed, or HOLDOVER from the limit on (R134). -/
theorem passLocked_clock (silence dt : Nat) (s : State) :
    (passLocked silence dt s).clock =
      if limitOfSilence s.clock.rate - silence < dt then
        (passHoldover 0 (dt - (limitOfSilence s.clock.rate - silence))
          (enterHoldover (runClock (limitOfSilence s.clock.rate - silence) s))).clock
      else { s.clock.run dt with lock := .locked (silence + dt) } := by
  dsimp only [passLocked]; split <;> rfl

/-- The internal time after some has passed (R131). -/
@[simp] theorem passTime_now (dt : Nat) (s : State) : (passTime dt s).clock.now = s.clock.now + dt := by
  have lost (k : Clock) : k.toLost.now = k.now := rfl
  have hold (e n : Nat) (s : State) : (passHoldover e n s).clock.now = s.clock.now + n := by
    rw [passHoldover_clock]; split
    · simp only [Clock.run_now, lost]; omega
    · exact Clock.run_now ..
  unfold passTime; split
  · rw [passLocked_clock]; split
    · simp only [hold, enterHoldover_clock, runClock, State.setClock_clock, Clock.run_now]; omega
    · exact Clock.run_now ..
  · exact hold ..
  · exact Clock.run_now ..

/-- The next step of a block is one of its steps, whatever its show time (log 4). -/
theorem nextStep_eq (s : State) (step : Nat → Instr) : ∃ t, s.nextStep step = step t := ⟨_, rfl⟩

/-- With nothing in flight the next step of a block carries the present show time (log 4). -/
theorem nextStep_of_nil (s : State) (step : Nat → Instr) (h : s.handed = []) : s.nextStep step = step s.clock.showTime := by
  simp [State.nextStep, h]

/-- What a clock step of the Show Clock may change: the clock, and the strips whose scans it makes due. -/
theorem showClockStep_keeps (s : State) : KeepsBut [.handed, .reports, .clock, .surface] s (showClockStep s) := by
  unfold showClockStep
  refine KeepsBut.trans (t := if s.clock.due = 0 then passTime s.clock.toStep s else s)
    (keeps_ite ((passTime_keeps ..).mono (by simp [clockParts])) (.refl ..)) ?_
  exact (((keeps_setClock ..).mono (by simp)).trans ((surfaceStep_keeps ..).mono (by simp [surfaceParts]))).trans
    ((keeps_hand ..).mono (by simp))

/-- All that UPDATE_FRAME can do (R168). -/
theorem sendFrame_eq (l : LinkNo) (time : Nat) (s : State) :
    sendFrame l time s =
      if (s.link l).maySend (max s.clock.now time) = true then
        ((passTime (time - s.clock.now) s).setLink l
          (((s.link l).framed (max s.clock.now time)).checkLow (slotGain s l))).emit
          (.link l (messageBytes 0x05 ((s.link l).queue.take Config.frameEntries)))
      else s := rfl

/-- What an update frame may change: the link, the line, and what the time that passes to it does. -/
theorem sendFrame_keeps (l : LinkNo) (n : Nat) (s : State) :
    KeepsBut [.handed, .sent, .reports, .links, .clock] s (sendFrame l n s) :=
  keeps_ite ((((passTime_keeps ..).mono (by simp [clockParts])).trans ((keeps_setLink ..).mono (by simp))).trans
    ((keeps_emit ..).mono (by simp))) (.refl ..)

theorem lockClock_keeps (p : Nat) (s : State) : KeepsBut clockParts s (lockClock p s) :=
  ((keeps_clock_setClock ..).trans (keeps_clock_hand ..)).trans (reportClock_keeps ..)

theorem acceptPeriod_keeps (p : Nat) (s : State) : KeepsBut clockParts s (acceptPeriod p s) := by
  unfold acceptPeriod; split
  · exact keeps_ite (lockClock_keeps ..) (keeps_clock_setClock ..)
  · exact keeps_clock_setClock ..
  · exact lockClock_keeps ..
  · exact .refl ..

theorem rejectPeriod_keeps (s : State) : KeepsBut clockParts s (rejectPeriod s) := by
  unfold rejectPeriod; split
  · exact keeps_clock_setClock ..
  · exact .refl ..

theorem pulse_keeps (s : State) : KeepsBut clockParts s (pulse s) := by
  unfold pulse; dsimp only; split
  · exact (keeps_clock_setClock ..).trans (reportClock_keeps ..)
  · exact keeps_clock_setClock ..
  · exact keeps_ite ((keeps_clock_setClock ..).trans (acceptPeriod_keeps ..)) ((keeps_clock_setClock ..).trans (rejectPeriod_keeps ..))

theorem referencePulseAt_keeps (n : Nat) (s : State) : KeepsBut clockParts s (referencePulseAt n s) :=
  keeps_ite ((passTime_keeps ..).trans (pulse_keeps ..)) (.refl ..)

theorem silenceLimitAt_keeps (s : State) : KeepsBut clockParts s (silenceLimitAt s) := by
  unfold silenceLimitAt; split
  · exact (passTime_keeps ..).trans (enterHoldover_keeps ..)
  · exact .refl ..

theorem holdoverExpiryAt_keeps (s : State) : KeepsBut clockParts s (holdoverExpiryAt s) := by
  unfold holdoverExpiryAt; split
  · exact (passTime_keeps ..).trans (enterLost_keeps ..)
  · exact .refl ..

theorem configureClock_keeps (c : ClockSource) (r : Nat) (s : State) : KeepsBut clockParts s (configureClock c r s) := by
  unfold configureClock; dsimp only; split
  · exact keeps_clock_setClock ..
  · exact (keeps_clock_setClock ..).trans (reportClock_keeps ..)
  · exact (keeps_clock_setClock ..).trans (reportClock_keeps ..)
  · exact keeps_ite (keeps_clock_setClock ..) ((keeps_clock_setClock ..).trans (reportClock_keeps ..))

theorem setShowTime_keeps (n : Nat) (s : State) : KeepsBut clockParts s (setShowTime n s) :=
  keeps_ite (keeps_clock_setClock ..) ((keeps_clock_setClock ..).trans (keeps_clock_hand ..))

/-! ## The Fault Monitor -/

/-- What work at the Fault Monitor may change. -/
def faultParts : List Part := [.handed, .reports, .faults]

theorem keeps_fault_setSource (s : State) (src : Source) (r : SourceRecord) : KeepsBut faultParts s (s.setSource src r) :=
  (keeps_setSource s src r).mono (by simp [faultParts])

theorem keeps_fault_hand (s : State) (es : List Instr) : KeepsBut faultParts s (s.hand es) :=
  (keeps_hand s es).mono (by simp [faultParts])

theorem workOutAction_keeps (s : State) : KeepsBut faultParts s (workOutAction s) := by
  unfold workOutAction; dsimp only; split
  · exact .refl ..
  · refine ⟨fun p hp => ?_⟩; cases p <;> simp_all [Part.same, faultParts]

theorem reportFault_keeps (src : Source) (b : Bool) (n : Nat) (s : State) : KeepsBut faultParts s (reportFault src b n s) :=
  keeps_ite (.refl ..) ((keeps_offer ..).mono (by simp [faultParts]))

theorem trip_keeps (src : Source) (s : State) : KeepsBut faultParts s (trip src s) :=
  (((keeps_fault_setSource ..).trans (keeps_fault_hand ..)).trans (reportFault_keeps ..)).trans (workOutAction_keeps ..)

theorem occurrenceAt_keeps (src : Source) (s : State) : KeepsBut faultParts s (occurrenceAt src s) :=
  keeps_ite (keeps_fault_setSource ..) (keeps_ite ((keeps_fault_setSource ..).trans (trip_keeps ..)) (keeps_fault_setSource ..))

theorem goodAt_keeps (src : Source) (s : State) : KeepsBut faultParts s (goodAt src s) :=
  keeps_ite (keeps_fault_setSource ..) (.refl ..)

theorem clearTripped_keeps (src : Source) (s : State) : KeepsBut faultParts s (clearTripped src s) :=
  (((keeps_fault_setSource ..).trans (keeps_fault_hand ..)).trans (reportFault_keeps ..)).trans (workOutAction_keeps ..)

theorem clearSource_keeps (src : Source) {s t : State} (h : clearSource src s = some t) : KeepsBut faultParts s t := by
  unfold clearSource at h; dsimp only at h; split at h
  · cases h; exact .refl ..
  · cases h; exact keeps_fault_setSource ..
  · split at h
    · cases h
    · cases h; exact clearTripped_keeps ..

theorem configureSource_keeps (src : Source) (a : Action) (n : Nat) (b : Bool) (s : State) :
    KeepsBut faultParts s (configureSource src a n b s) := by
  unfold configureSource; dsimp only; split
  · exact keeps_fault_setSource ..
  · exact keeps_ite ((keeps_fault_setSource ..).trans (trip_keeps ..)) (keeps_fault_setSource ..)
  · exact (keeps_fault_setSource ..).trans (workOutAction_keeps ..)

end Sys2Proof.Machine
end

