-- ==== Sys2Proof/Laws/Operands.lean ====
section
/-! SUPPORT. What the range checks of a request's fields answer (R187): the value itself where it is in range, none elsewhere. -/

namespace Sys2Proof.Machine

theorem finOf?_eq_some {k n : Nat} {x : Fin k} : finOf? k n = some x ↔ x.val = n := by
  unfold finOf?
  split
  · exact ⟨fun h => by cases h; rfl, fun h => by subst h; rfl⟩
  · exact ⟨nofun, fun h => absurd (h ▸ x.isLt) ‹_›⟩

theorem finOf?_eq_none {k n : Nat} : finOf? k n = none ↔ k ≤ n := by
  unfold finOf?; split <;> simp <;> omega

theorem mapM_finOf?_eq_some {k : Nat} {ns : List Nat} {xs : List (Fin k)} :
    ns.mapM (finOf? k) = some xs ↔ xs.map Fin.val = ns := by
  induction ns generalizing xs with
  | nil => cases xs <;> simp
  | cons n ns ih => cases xs <;> simp [List.mapM_cons, finOf?_eq_some, ih, Option.bind_eq_some_iff]

theorem distinctOf?_eq_some {k : Nat} {ns : List Nat} {xs : List (Fin k)} :
    distinctOf? k ns = some xs ↔ ns.Nodup ∧ xs.map Fin.val = ns := by
  unfold distinctOf?; split <;> simp [*, mapM_finOf?_eq_some]

/-- A list is taken exactly where its count and its numbers are in range and none is named twice. -/
theorem listOf?_eq_some {most k : Nat} {ns : List Nat} {xs : List (Fin k)} :
    listOf? most k ns = some xs ↔ 1 ≤ ns.length ∧ ns.length ≤ most ∧ ns.Nodup ∧ xs.map Fin.val = ns := by
  unfold listOf?; split <;> simp_all [distinctOf?_eq_some]

theorem positionOf?_eq_some {n : Nat} {p : Position} : positionOf? n = some p ↔ p.val = n := finOf?_eq_some

theorem timeOf?_eq_some {n t : Nat} : timeOf? n = some t ↔ n ≤ 600000 ∧ t = n := by
  unfold timeOf? Config.maxTime; split <;> simp_all [eq_comm]

theorem cueOf?_eq_some {n c : Nat} : cueOf? n = some c ↔ (1 ≤ n ∧ n ≤ 99999) ∧ c = n := by
  unfold cueOf? Config.maxCue; split <;> simp_all [eq_comm]

theorem within?_eq_some {lo hi n m : Nat} : within? lo hi n = some m ↔ (lo ≤ n ∧ n ≤ hi) ∧ m = n := by
  unfold within?; split <;> simp_all [eq_comm]

end Sys2Proof.Machine
end

