-- ==== Sys2Proof/Laws/PortFrames.lean ====
section
/-! SUPPORT. What resets and the requests of the Control Port leave alone. -/

namespace Sys2Proof.Machine

theorem keeps_setPort (s : State) (p : Port) : KeepsBut [.port, .reports] s (s.setPort p) := by
  refine ⟨fun q hq => ?_⟩; cases q <;> simp_all [Part.same, State.setPort]

/-! ## Resets -/

/-- What RESET PLAYBACK may change. -/
def playbackResetParts : List Part := [.handed, .reports, .channels, .groups, .engine, .seq, .trims]

theorem setHeldMark_keeps (b : Bool) (s : State) : KeepsBut [.engine] s (setHeldMark b s) := by
  refine ⟨fun p hp => ?_⟩; cases p <;> simp_all [Part.same, setHeldMark]

theorem cancelMoves_keeps (s : State) : KeepsBut [.reports, .engine] s (cancelMoves s) := endWhere_keeps ..

theorem takeEngineOrder_keeps (e : Instr) (s : State) : KeepsBut engineParts s (takeEngineOrder e s) := by
  have ht : KeepsBut engineParts s (s.take e) := (keeps_take s e).mono (by simp [engineParts])
  unfold takeEngineOrder; split
  · exact ht.trans (fireCue_keeps ..)
  · exact ht.trans (cancelMoves_keeps ..).engine_of_ends
  · exact ht.trans ((setHeldMark_keeps ..).mono (by simp [engineParts]))
  · exact ht.trans ((setHeldMark_keeps ..).mono (by simp [engineParts]))
  · exact .refl ..

theorem settleEngine_keeps (s : State) : KeepsBut engineParts s (settleEngine s) :=
  keeps_foldl (fun s e => takeEngineOrder_keeps e s) _ s

theorem endHoldAtReset_keeps (s : State) : KeepsBut [.seq, .engine] s (endHoldAtReset s) := by
  unfold endHoldAtReset; split
  · exact keeps_ite (.refl ..) (((keeps_setSeq ..).mono (by simp)).trans ((setHeldMark_keeps ..).mono (by simp)))
  · exact (keeps_setSeq ..).mono (by simp)

theorem restartGlide_keeps (c : ChanNo) (s : State) : KeepsBut levelParts s (restartGlide c s) := by
  unfold restartGlide; split
  · exact startGlide_keeps ..
  · exact startGlide_keeps ..
  · exact .refl ..

theorem resetPlaybackNow_keeps (s : State) : KeepsBut playbackResetParts s (resetPlaybackNow s) := by
  have h1 : KeepsBut playbackResetParts s (cancelMoves (settleEngine s)) :=
    ((settleEngine_keeps s).trans (cancelMoves_keeps _).engine_of_ends).mono (by simp [engineParts, playbackResetParts])
  have h2 : ∀ u q, KeepsBut playbackResetParts u (endHoldAtReset (u.setSeq q)) := fun u q =>
    ((keeps_setSeq u q).mono (by simp [playbackResetParts])).trans
      ((endHoldAtReset_keeps _).mono (by simp [playbackResetParts]))
  have h3 : ∀ u m, KeepsBut playbackResetParts u ((u.setTrims m).forChannels restartGlide) := fun u m =>
    ((setTrims_keeps u m).mono (by simp [playbackResetParts])).trans
      ((keeps_foldl (fun s c => restartGlide_keeps c s) _ _).mono (by simp [levelParts, playbackResetParts]))
  exact (h1.trans (h2 _ _)).trans (h3 _ _)

/-- What RESET SURFACE may change. -/
def surfaceResetParts : List Part := [.handed, .reports, .channels, .surface]

theorem takeSurfaceEvent_keeps (e : Instr) (s : State) : KeepsBut levelParts s (takeSurfaceEvent e s) := by
  have ht : KeepsBut levelParts s (s.take e) := (keeps_take s e).mono (by simp [levelParts])
  unfold takeSurfaceEvent; split
  · exact ht.trans (touchChannel_keeps ..)
  · exact ht.trans (operatorAt_keeps ..)
  · exact ht.trans (releaseChannel_keeps ..)
  · exact ht.trans (assignStrip_keeps ..)
  · exact ht.trans (releaseStrip_keeps ..)
  · exact .refl ..

theorem settleChannel_keeps (c : ChanNo) (s : State) : KeepsBut levelParts s (settleChannel c s) :=
  keeps_foldl (fun s e => takeSurfaceEvent_keeps e s) _ s

theorem KeepsBut.surfaceReset_of_level {s t : State} (h : KeepsBut levelParts s t) : KeepsBut surfaceResetParts s t :=
  h.mono (by simp [levelParts, surfaceResetParts])

theorem KeepsBut.surfaceReset_of_surface {s t : State} (h : KeepsBut surfaceParts s t) : KeepsBut surfaceResetParts s t :=
  h.mono (by simp [surfaceParts, surfaceResetParts])

theorem dropTouch_keeps (s : State) (n : StripNo) : KeepsBut surfaceResetParts s (dropTouch s n) := by
  unfold dropTouch; dsimp only; split
  · exact ((settleChannel_keeps ..).trans (releaseChannel_keeps ..)).surfaceReset_of_level.trans
      (reportTouch_keeps ..).surfaceReset_of_surface
  · exact .refl ..

theorem recalibrate_keeps (s : State) (n : StripNo) : KeepsBut surfaceParts s (recalibrate s n) :=
  keeps_ite ((keeps_surface_setStrip ..).trans (reportStrip_keeps ..)) (keeps_surface_setStrip ..)

theorem resetSurfaceNow_keeps (s : State) : KeepsBut surfaceResetParts s (resetSurfaceNow s) := by
  have h1 := keeps_foldl dropTouch_keeps allStrips s
  have h2 : ∀ u x, KeepsBut surfaceParts u (allStrips.foldl recalibrate { u with surface := x }) := fun u x =>
    (keeps_surface_set u x).trans (keeps_foldl recalibrate_keeps _ _)
  have h3 : ∀ (u : State) (b : Bool), KeepsBut surfaceParts u (assignmentPass (if b then u.hand [.goodEvent .motor] else u)) := fun u b =>
    (keeps_ite (keeps_surface_hand ..) (.refl ..)).trans (assignmentPass_keeps _)
  unfold resetSurfaceNow
  exact h1.trans ((h2 (allStrips.foldl dropTouch s) _).trans (h3 _ (motorPresent s.surface))).surfaceReset_of_surface

theorem resetLinksNow_keeps (s : State) : KeepsBut linkParts s (resetLinksNow s) :=
  keeps_foldl (fun s l => ((keeps_link_setLink s l _).trans (beginTraining_keeps l _)).trans (reportLink_keeps l (s.link l).state _)) allLinks s

/-! ## Requests -/

/-- An accepted request leaves all but these parts alone. -/
def RulingKeeps (ps : List Part) (s : State) (r : Ruling) : Prop := ∀ p t, r = .ok (p, t) → KeepsBut ps s t

theorem RulingKeeps.ok {ps : List Part} {s t : State} {p : List Byte} (h : KeepsBut ps s t) :
    RulingKeeps ps s (.ok (p, t)) := by
  intro q u hq; cases hq; exact h

theorem RulingKeeps.error {ps : List Part} {s : State} {st : Status} : RulingKeeps ps s (.error st) := by
  intro q u hq; cases hq

theorem RulingKeeps.bind {α : Type} {ps : List Part} {s : State} {x : Except Status α} {f : α → Ruling}
    (h : ∀ a, RulingKeeps ps s (f a)) : RulingKeeps ps s (x >>= f) := by
  cases x with
  | error st => exact .error
  | ok a => exact h a

theorem RulingKeeps.ite {ps : List Part} {s : State} {p : Prop} [Decidable p] {a b : Ruling} (ha : RulingKeeps ps s a)
    (hb : RulingKeeps ps s b) : RulingKeeps ps s (if p then a else b) := by
  split <;> assumption

/-- What an answer changes: the reply buffer. -/
theorem answer_keeps (tag code : Byte) (st : Status) (p : List Byte) (s : State) :
    KeepsBut [.port] s (answer tag code st p s) := by
  refine ⟨fun q hq => ?_⟩; cases q <;> simp_all [Part.same, answer, State.setPort]

/-- A refused request leaves everything as it was but the reply buffer (R187). -/
theorem conclude_error (tag code : Byte) (s : State) (st : Status) :
    conclude tag code s (.error st) = answer tag code st [] s := rfl

theorem conclude_keeps {ps : List Part} {s : State} {r : Ruling} (tag code : Byte) (h : RulingKeeps ps s r) :
    KeepsBut (.port :: ps) s (conclude tag code s r) := by
  unfold conclude; split
  · exact (answer_keeps ..).mono (by simp)
  · next done => exact ((h done.1 done.2 rfl).mono (by simp +contextual)).trans ((answer_keeps ..).mono (by simp))

theorem judge_keeps {α : Type} {ps : List Part} {s : State} {rule : α → State → Ruling} (tag code : Byte) (form : Form α)
    (h : ∀ a, RulingKeeps ps s (rule a s)) : KeepsBut (.port :: ps) s (judge tag code form rule s) := by
  unfold judge; split
  · exact (answer_keeps ..).mono (by simp)
  · exact conclude_keeps _ _ (h _)

/-- A free port takes a request by removing it from the head of the queue, and by nothing else (R186). -/
theorem taken_of_free (c : Instr) {s : State} (h : s.port.reply = none) (k : s.port.resetWaiting = none) :
    taken c s = popRequest c s := by
  simp [taken, portReady, replyOut, h, k]

theorem popRequest_keeps (c : Instr) (s : State) : KeepsBut [.port] s (popRequest c s) := by
  unfold popRequest; split
  · split
    · refine ⟨fun q hq => ?_⟩; cases q <;> simp_all [Part.same, State.setPort]
    · exact .refl ..
  · exact .refl ..

end Sys2Proof.Machine
end

