-- ==== Sys2Proof/Laws/RuleFrames.lean ====
section
/-! SUPPORT. What each accepted request leaves alone but the reply buffer. -/

namespace Sys2Proof.Machine

theorem keeps_setPort_of {s : State} {p : Port} (h : p.reports = s.port.reports)
    (k : p.flags.reportLost = s.port.flags.reportLost) : KeepsBut [.port] s (s.setPort p) := by
  refine ⟨fun q hq => ?_⟩; cases q <;> simp_all [Part.same, State.setPort]

/-! ## The Control Port -/

theorem ruleHeartbeat_keeps (s : State) : RulingKeeps [.handed, .port] s (ruleHeartbeat s) := by
  have h : ∀ x e, KeepsBut [.handed, .port] s ((s.setPort { s.port with heartbeat := x }).hand e) := fun x e =>
    have h1 : KeepsBut [.port] s (s.setPort { s.port with heartbeat := x }) := keeps_setPort_of rfl rfl
    (h1.mono (by simp)).trans ((keeps_hand _ e).mono (by simp))
  unfold ruleHeartbeat; dsimp only; split
  · exact .ok (.refl ..)
  · exact .ite (.ok (h ..)) (.ok (h ..))

theorem ruleReportMode_keeps (f : Option ReportModeFields) (s : State) : RulingKeeps [.port, .engine] s (ruleReportMode f s) := by
  unfold ruleReportMode; split
  · exact .ok (.refl ..)
  · exact .bind fun _ => .bind fun _ => .bind fun _ => .ok ⟨fun q hq => by cases q <;> simp_all [Part.same]⟩

theorem ruleWatchSet_keeps (f : Option WatchFields) (s : State) : RulingKeeps [.port] s (ruleWatchSet f s) := by
  unfold ruleWatchSet; split
  · exact .ok (.refl ..)
  · exact .bind fun _ => .bind fun _ => .bind fun _ => .bind fun _ => .ok (keeps_setPort_of rfl rfl)

theorem ruleHeartbeatConfig_keeps (f : Option HeartbeatFields) (s : State) :
    RulingKeeps [.port] s (ruleHeartbeatConfig f s) := by
  unfold ruleHeartbeatConfig; split
  · exact .ok (.refl ..)
  · exact .bind fun _ => .bind fun _ => .bind fun _ => .ok (keeps_setPort_of rfl rfl)

/-! ## The Cue Store -/

theorem ruleCueLoad_keeps (f : CueLoadFields) (s : State) : RulingKeeps listParts s (ruleCueLoad f s) := by
  unfold ruleCueLoad
  refine .bind fun _ => .bind fun _ => .bind fun part => ?_
  split
  · exact .bind fun _ => .ok (commitCue_keeps ..)
  · exact .ok ⟨fun q hq => by cases q <;> simp_all [Part.same, listParts]⟩

theorem ruleCueDelete_keeps (n : Nat) (s : State) : RulingKeeps listParts s (ruleCueDelete n s) :=
  .bind fun _ => .bind fun _ => .ok (editList_keeps ..)

theorem ruleListClear_keeps (s : State) : RulingKeeps listParts s (ruleListClear s) := .ok (editList_keeps ..)

theorem ruleCueRead_keeps (f : CueReadFields) (s : State) : RulingKeeps [] s (ruleCueRead f s) := by
  unfold ruleCueRead
  refine .bind fun _ => .bind fun _ => .bind fun _ => ?_
  split
  · exact .error
  · exact .bind fun _ => .ok (.refl ..)

/-! ## The Cue Sequencer -/

theorem ruleGo_keeps (f : GoFields) (s : State) : RulingKeeps playParts s (ruleGo f s) := by
  unfold ruleGo
  refine .bind fun _ => .bind fun _ => .bind fun _ => .bind fun _ => .bind fun _ => ?_
  split
  · exact .error
  · exact .ok (fire_keeps ..)

theorem ruleBack_keeps (s : State) : RulingKeeps playParts s (ruleBack s) := by
  unfold ruleBack; split
  · exact .error
  · exact .ok (fireBack_keeps ..)

theorem ruleGotoFire_keeps (n : Nat) (s : State) : RulingKeeps playParts s (ruleGotoFire n s) := by
  unfold ruleGotoFire
  refine .bind fun _ => .bind fun _ => ?_
  split
  · exact .error
  · exact .ok (fire_keeps ..)

theorem ruleGotoClear_keeps (n : Nat) (s : State) : RulingKeeps playParts s (ruleGotoClear n s) :=
  .bind fun _ => .bind fun _ => .ok ((keeps_setSeq ..).mono (by decide))

theorem ruleGoto_keeps (f : GotoFields) (s : State) : RulingKeeps playParts s (ruleGoto f s) := by
  unfold ruleGoto
  split
  · exact ruleGotoClear_keeps _ _
  · split
    · exact ruleGotoFire_keeps _ _
    · exact .error

theorem ruleResume_keeps (s : State) : RulingKeeps playParts s (ruleResume s) :=
  .bind fun _ => .bind fun _ => .ok (endHold_keeps ..)

theorem ruleScheduleAdd_keeps (f : TriggerFields) (s : State) : RulingKeeps [.seq] s (ruleScheduleAdd f s) :=
  .bind fun _ => .bind fun _ => .bind fun _ => .ok (keeps_setSchedule ..)

theorem ruleScheduleCancel_keeps (n : Option Nat) (s : State) : RulingKeeps [.seq] s (ruleScheduleCancel n s) :=
  .bind fun _ => .bind fun _ => .ok (keeps_setSchedule ..)

theorem rulePlaybackConfig_keeps (f : Option Nat) (s : State) : RulingKeeps [.seq] s (rulePlaybackConfig f s) :=
  .bind fun _ => .ok (keeps_setSeq ..)

/-! ## The Channel Table -/

theorem ruleChanSet_keeps (f : ChanSetFields) (s : State) : RulingKeeps engineParts s (ruleChanSet f s) :=
  .bind fun _ => .bind fun _ => .bind fun _ => .bind fun _ => .ok (requestMoves_keeps ..)

theorem ifPresent_keeps {α : Type} {ps : List Part} (o : Option α) {f : α → State → State}
    (h : ∀ a s, KeepsBut ps s (f a s)) (s : State) : KeepsBut ps s (ifPresent o f s) := by
  unfold ifPresent; split
  · exact h ..
  · exact .refl ..

theorem configureChannel_keeps (x : ChanSettings) (s : State) (c : ChanNo) :
    KeepsBut levelParts s (configureChannel x s c) :=
  ((((ifPresent_keeps _ (fun a s => writeStaticTrim_keeps c a s) s).trans
    (ifPresent_keeps _ (fun _ s => keeps_level_setChannel s c _) _)).trans
    (ifPresent_keeps _ (fun _ s => keeps_level_setChannel s c _) _)).trans
    (ifPresent_keeps _ (fun a s => writeSafeLevel_keeps c a s) _)).trans
    (ifPresent_keeps _ (fun a s => writeSafed_keeps c a s) _)

theorem ruleChanConfig_keeps (f : ChanConfigFields) (s : State) : RulingKeeps levelParts s (ruleChanConfig f s) :=
  .bind fun _ => .bind fun x => .ok (keeps_foldl (configureChannel_keeps x) _ _)

theorem ruleChanRead_keeps (f : RangeFields) (s : State) : RulingKeeps [] s (ruleChanRead f s) :=
  .bind fun _ => .ok (.refl ..)

theorem ruleMuteSet_keeps (f : MuteFields) (s : State) : RulingKeeps levelParts s (ruleMuteSet f s) :=
  .bind fun _ => .bind fun on => .ok (keeps_foldl (fun s c => setOwnMute_keeps c on s) _ _)

theorem ruleChanRelease_keeps (ns : List Nat) (s : State) : RulingKeeps levelParts s (ruleChanRelease ns s) :=
  .bind fun _ => .bind fun _ => .ok (keeps_foldl (fun s c => startGlide_keeps c s) _ _)

/-- What LEVEL_CONFIG may change. -/
def levelConfigParts : List Part := [.handed, .reports, .levels, .channels]

theorem jumpMute_keeps (c : ChanNo) (s : State) : KeepsBut levelParts s (jumpMute c s) :=
  keeps_ite (.refl ..) (keeps_ite (.refl ..) (writeLevel_keeps ..))

theorem writeLevels_keeps (l : Levels) (s : State) : KeepsBut levelConfigParts s (writeLevels l s) := by
  have h : KeepsBut levelConfigParts s { s with levels := l } :=
    ⟨fun q hq => by cases q <;> simp_all [Part.same, levelConfigParts]⟩
  exact keeps_ite (h.trans ((keeps_foldl (fun s c => jumpMute_keeps c s) _ _).mono (by simp [levelParts, levelConfigParts]))) h

theorem ruleLevelConfig_keeps (f : Option LevelFields) (s : State) : RulingKeeps levelConfigParts s (ruleLevelConfig f s) := by
  unfold ruleLevelConfig; split
  · exact .ok (.refl ..)
  · exact .bind fun _ => .bind fun _ => .bind fun _ => .ok (writeLevels_keeps ..)

/-! ## The Trim Memory and the Group Table -/

theorem ruleTrimSet_keeps (f : TrimSetFields) (s : State) : RulingKeeps [.handed, .trims] s (ruleTrimSet f s) :=
  .bind fun _ => .bind fun _ => .ok (setTrims_keeps ..)

theorem ruleTrimClear_keeps (n : Option Nat) (s : State) : RulingKeeps [.handed, .trims] s (ruleTrimClear n s) := by
  refine .bind fun x => ?_
  cases x
  · exact .ok (setTrims_keeps ..)
  · exact .ok (setTrims_keeps ..)

theorem ruleTrimRead_keeps (f : RangeFields) (s : State) : RulingKeeps [] s (ruleTrimRead f s) :=
  .bind fun _ => .ok (.refl ..)

theorem ruleGroupMembers_keeps (f : MembersFields) (s : State) : RulingKeeps groupParts s (ruleGroupMembers f s) :=
  .bind fun _ => .bind fun _ => .bind fun _ => .ok (writeMembers_keeps ..)

theorem ruleGroupSet_keeps (f : GroupSetFields) (s : State) : RulingKeeps engineParts s (ruleGroupSet f s) :=
  .bind fun _ => .bind fun _ => .bind fun _ => .bind fun _ => .ok (requestMoves_keeps ..)

theorem ruleGroupMute_keeps (f : MuteFields) (s : State) : RulingKeeps groupParts s (ruleGroupMute f s) :=
  .bind fun _ => .bind fun on => .ok (keeps_foldl (fun s g => writeMasterMute_keeps g on s) _ _)

theorem ruleGroupRead_keeps (f : GroupReadFields) (s : State) : RulingKeeps [] s (ruleGroupRead f s) := by
  unfold ruleGroupRead; split <;> exact .bind fun _ => .ok (.refl ..)

/-! ## The Surface Controller -/

theorem ruleBankMap_keeps (f : BankMapFields) (s : State) : RulingKeeps surfaceParts s (ruleBankMap f s) := by
  unfold ruleBankMap
  refine .bind fun b => ?_
  split
  · exact .ok (.refl ..)
  · refine .bind fun _ => .bind fun _ => .bind fun _ => .ok ?_
    exact keeps_ite ((keeps_surface_set ..).trans (assignmentPass_keeps _)) (keeps_surface_set ..)

theorem ruleBankSelect_keeps (n : Nat) (s : State) : RulingKeeps surfaceParts s (ruleBankSelect n s) :=
  .bind fun _ => .ok (selectBank_keeps ..)

theorem ruleStripCalibrate_keeps (ns : List Nat) (s : State) : RulingKeeps surfaceParts s (ruleStripCalibrate ns s) :=
  .bind fun _ => .bind fun _ => .bind fun _ => .ok (keeps_foldl (fun s n => startCalibration_keeps n s) _ _)

theorem ruleSurfaceConfig_keeps (f : SurfaceConfigFields) (s : State) :
    RulingKeeps surfaceParts s (ruleSurfaceConfig f s) := by
  unfold ruleSurfaceConfig; split
  · exact .ok (.refl ..)
  · exact .bind fun _ => .ok (writeSettings_keeps ..)
  · exact .bind fun _ => .bind fun _ => .ok (keeps_surface_setStrip ..)

theorem ruleStripRead_keeps (f : RangeFields) (s : State) : RulingKeeps [] s (ruleStripRead f s) :=
  .bind fun _ => .ok (.refl ..)

/-! ## The Gain Link Controller -/

theorem ruleSlotMap_keeps (f : SlotMapFields) (s : State) : RulingKeeps linkParts s (ruleSlotMap f s) := by
  unfold ruleSlotMap
  refine .bind fun _ => .bind fun _ => ?_
  split
  · exact .ok (.refl ..)
  · exact .bind fun _ => .bind fun _ => .ok (writeMap_keeps ..)

theorem ruleLinkConfig_keeps (f : LinkConfigFields) (s : State) : RulingKeeps linkParts s (ruleLinkConfig f s) := by
  unfold ruleLinkConfig
  refine .bind fun _ => ?_
  split
  · exact .ok (.refl ..)
  · exact .bind fun _ => .bind fun _ => .bind fun _ => .bind fun _ => .bind fun _ => .bind fun _ => .bind fun _ =>
      .ok (writeLink_keeps ..)

theorem ruleLinkRead_keeps (n : Nat) (s : State) : RulingKeeps [] s (ruleLinkRead n s) := .bind fun _ => .ok (.refl ..)

/-! ## The Show Clock and the Fault Monitor -/

theorem ruleClockConfig_keeps (f : Option ClockFields) (s : State) : RulingKeeps clockParts s (ruleClockConfig f s) := by
  unfold ruleClockConfig; split
  · exact .ok (.refl ..)
  · exact .bind fun _ => .bind fun _ => .ok (configureClock_keeps ..)

theorem ruleClockSet_keeps (n : Nat) (s : State) : RulingKeeps clockParts s (ruleClockSet n s) :=
  .bind fun _ => .ok (setShowTime_keeps ..)

theorem ruleFaultConfig_keeps (f : FaultConfigFields) (s : State) : RulingKeeps faultParts s (ruleFaultConfig f s) := by
  unfold ruleFaultConfig
  refine .bind fun _ => ?_
  split
  · exact .ok (.refl ..)
  · exact .bind fun _ => .bind fun _ => .bind fun _ => .ok (configureSource_keeps ..)

theorem ruleFaultClear_keeps (n : Nat) (s : State) : RulingKeeps faultParts s (ruleFaultClear n s) := by
  unfold ruleFaultClear
  refine .bind fun src => ?_
  split
  · exact .error
  · next h => exact .ok (clearSource_keeps src h)

theorem ruleFaultTest_keeps (n : Nat) (s : State) : RulingKeeps faultParts s (ruleFaultTest n s) :=
  .bind fun _ => .ok (occurrenceAt_keeps ..)

end Sys2Proof.Machine
end

