-- ==== Sys2Proof/Tests/Slice0.lean ====
section
/-! SUPPORT. The model's own tests: the checks of WellFormed, worked examples of the manual, and for every statement a concrete
state that meets its hypotheses. -/

open Sys2Proof Sys2Proof.Machine

namespace Sys2Proof.Tests

-- one theorem after another: every kernel check waits for the one before, and waiting threads cost memory
set_option Elab.async false

/-- The part right after power-on, once the events of its first assignment pass are gone. -/
def quiet : State := { State.reset with handed := [] }

/-- The quiet part with another port. -/
def quietPort (p : Port) : State := { quiet with port := p }

/-- An IDENT request with TAG 7. -/
def identRequest : Request := { tag := 7, code := 1, payload := [] }

/-- A reply of six bytes. -/
def someReply : Reply := { tag := 7, code := 1, status := .ok, busy := false, payload := [0x0E, 0x71, 0x25, 0x98, 1, 0] }

/-- The quiet part with LEVEL reports enabled for every channel. -/
def watching : State :=
  quietPort
    { enables := Vector.replicate 9 true
      watches := Vector.replicate 8 { inUse := true, value := 0, mask := 0 } }

/-- A header without a follow and a link. -/
def plainHeader : CueHeader := { label := [0x41], follow := none, link := none, age := false }

/-- A record that takes channels 3 and 4 to 700 in 3 s. -/
def plainRecord : MoveRecord :=
  { targets := .list [3, 4], level := 700, delay := 0, time := 3000, curve := .linear, mute := .none }

/-- A cue of one record. -/
def plainCue (n : Nat) : Cue := { number := n, header := plainHeader, records := [plainRecord] }

/-- A list of cues 10 and 20, ready. -/
def twoCues : State :=
  { quiet with
    store := { cues := [plainCue 10, plainCue 20], generation := 417 }
    seq := { state := .ready, standby := some 10, listEmpty := false } }

/-- A list of 512 cues. -/
def fullList : State := { quiet with store := { cues := (List.range 512).map fun i => { plainCue (1000 + i) with records := [] } } }

/-- A record as a part carries it. -/
def rawRecord : RawRecord := { targets := .range 0 5, level := 512, delay := 1000, time := 4000, curve := 3, mute := 0 }

/-- A part of cue 250 with two records. -/
def partOf (part last : Nat) : CueLoadFields :=
  { cue := 250
    part := part
    last := last
    header := if part = 0 then some { label := [0x41], follow := none, link := none, age := 0 } else none
    records := [rawRecord, rawRecord] }

/-- A move of channel `c` from a cue, with 3000 ms to run to 700. -/
def aMove (c : ChanNo) : Move :=
  { id := c.val
    cue := some 10
    target := .channel c
    phase := .running 0 100
    duration := 3000
    goal := 700
    curve := .scurve
    mute := .muteAtEnd }

/-- The quiet part with these moves in the table. -/
def moving (ms : List Move) : State := { quiet with engine := { moves := ms, nextId := 200 } }

/-- Channel 12 of the worked case of spec/01_levels_and_the_gain_law.md 1.11, before its clock step. -/
def worked : State :=
  { ((quiet.setGroup 2 { master := 700, members := [12] }).setGroup 5 { master := 1023, members := [12] }).setChannel 12
      { pAuto := 640
        pEff := 600
        workingTrim := ⟨-40, by decide⟩
        staticTrim := 25
        gain := .tenths 32
        target := .tenths 32
        output := .tenths 10
        settled := false } with handed := [] }

/-- The hypotheses of ChannelGainFollowsTheLaw are met. -/
theorem witness_ChannelGain_segment : ((768 : Int), (0 : Int), (1023 : Int), (100 : Int)) ∈
    [((1 : Int), (-900 : Int), (64 : Int), (-600 : Int)), (64, -600, 256, -300), (256, -300, 512, -100), (512, -100, 768, 0),
      (768, 0, 1023, 100)] ∧
    (768 : Int) ≤ ((1023 : Position).val : Int) ∧ ((1023 : Position).val : Int) = 1023 := by decide +kernel

/-- The hypotheses of ChannelGainFollowsTheLaw are met. -/
theorem witness_ChannelGain_sum : ((worked.channel 12).pEff ≠ 0) ∧ (∀ g, (12 : ChanNo) ∈ (worked.group g).members →
      (worked.group g).master ≠ 0) ∧ (groupsOf worked 12).length ≤ 4 ∧ channelGain worked 12 = (.tenths 32, false) := by
  decide +kernel

/-- The hypotheses of ChannelGainFollowsTheLaw are met. -/
theorem witness_ChannelGain_master : ((worked.setGroup 2 { members := [12], master := 0 }).channel 12).pEff ≠ 0 ∧
    (12 : ChanNo) ∈ ((worked.setGroup 2 { members := [12], master := 0 }).group 2).members ∧
    ((worked.setGroup 2 { members := [12], master := 0 }).group 2).master = 0 := by decide +kernel

/-- The hypotheses of ChannelClockStepsRampAndSlew are met. -/
theorem witness_ChannelClockStep_plain : .channelClockStep 12 0 = worked.nextStep (.channelClockStep 12 ·) ∧
    (worked.channel 12).frozen = false ∧ glideOf (worked.channel 12).owner = none ∧
    (worked.channel 12).settled = false ∧ (worked.channel 12).output ≠ (worked.channel 12).target := by decide +kernel

/-- The hypotheses of ChannelClockStepsRampAndSlew are met. -/
theorem witness_ChannelClockStep_glides : (quiet.setChannel 3 { owner := .glide ⟨700, 999, 1000⟩ }).channel 3 =
      { owner := .glide ⟨700, 999, 1000⟩ } ∧ (1000 : Nat) ≤ 999 + 1 ∧ (249 : Nat) + 1 < 1000 ∧
    (quiet.setChannel 3 { owner := .forced (.safeGlide ⟨700, 249, 1000⟩), safeLevel := some 5 }).channel 3 =
      { owner := .forced (.safeGlide ⟨700, 249, 1000⟩), safeLevel := some 5 } ∧
    (quiet.setChannel 3 { owner := .forced .frozen }).channel 3 = { owner := .forced .frozen } ∧
    ((quiet.setChannel 3 { settled := false }).channel 3).output = ((quiet.setChannel 3 { settled := false }).channel 3).target := by
  decide +kernel

/-- The hypotheses of MuteAndGroupEventsReachTheLevel are met. -/
theorem witness_MuteAndGroupEvents : (worked.channel 12).frozen = false ∧ PortFree worked ∧ [(0 : ChanNo), 12, 95].Nodup ∧
    ((quiet.setChannel 3 { owner := .forced .frozen }).channel 3).frozen = true ∧ (∃ n ∈ [(96 : Nat)], 95 < n) ∧
    16 < (List.range 17).length := by
  unfold PortFree; decide +kernel

/-- The hypotheses of ChannelEventsMoveTheEffectivePosition are met. -/
theorem witness_ChannelEvents : (worked.channel 12).owner = .auto ∧ (5 : Int) ≠ (worked.channel 12).workingTrim.val ∧
    ((quiet.setChannel 3 { owner := .touched, pOp := 650, pEff := 650 }).channel 3).owner = .touched := by decide +kernel

/-- The hypotheses of ReleasesAndForcingChangeTheOwner are met. -/
theorem witness_Releases_touched : ((quiet.setChannel 3 { owner := .touched, pOp := 1023, pEff := 1023, pAuto := 1, releaseMode := .learn }).channel
      3).owner = .touched ∧
    ((quiet.setChannel 3 { owner := .touched, applied := .safe, safeLevel := some 5 }).channel 3).applied = .safe := by
  decide +kernel

/-- The hypotheses of ReleasesAndForcingChangeTheOwner are met. -/
theorem witness_Releases_actions : (.safe : Action) ≠ (quiet.channel 3).applied ∧ (quiet.channel 3).owner = .auto ∧
    ((quiet.setChannel 3 { owner := .forced .frozen, applied := .freeze }).channel 3).owner = .forced .frozen := by decide +kernel

/-- The hypotheses of ReleasesAndForcingChangeTheOwner are met. -/
theorem witness_Releases_range : PortFree quiet ∧ (∃ n ∈ [(0 : Nat), 96], 95 < n) ∧ ¬[(3 : Nat), 3].Nodup ∧ 16 < (List.range 17).length := by
  unfold PortFree; decide +kernel

/-- The hypotheses of ReleasesAndForcingChangeTheOwner are met. -/
theorem witness_Releases_request : PortFree (quiet.setChannel 3 { owner := .manual, releasePos := 700, pEff := 700 }) ∧
    [(3 : ChanNo), 4].Nodup ∧
    ([(3 : ChanNo), 4].filter fun x =>
      ((quiet.setChannel 3 { owner := .manual, releasePos := 700, pEff := 700 }).channel x).owner = .manual) = [3] := by
  unfold PortFree; decide +kernel

/-- The hypotheses of ChannelSettingsTakeEffect are met. -/
theorem witness_ChannelSettings : PortFree quiet ∧ 80 + 16 ≤ 96 ∧ (∀ x ∈ (some (-200) : Option Int), -200 ≤ x ∧ x ≤ 100) ∧
    quiet.levels.muteRamp ≠ 0 ∧ (∃ x ∈ (some 101 : Option Int), x < -200 ∨ 100 < x) := by
  unfold PortFree; decide +kernel

/-- The hypotheses of TrimOperationsWriteTheTables are met. -/
theorem witness_TrimOperations : PortFree quiet ∧ [(⟨-255, by decide⟩ : Trim), ⟨255, by decide⟩] ≠ [] ∧ 94 + 2 ≤ 96 ∧
    (∃ x ∈ [(256 : Int)], x < -255 ∨ 255 < x) := by unfold PortFree; decide +kernel

/-- The hypotheses of GroupsTakeMembersMutesAndMasters are met. -/
theorem witness_Groups : (700 : Position) ≠ (worked.group 2).master + 1 ∧ (701 : Position) ≠ (worked.group 2).master ∧
    true ≠ (worked.group 2).muted ∧ PortFree worked ∧ [(0 : GroupNo), 15].Nodup ∧
    (∀ c ∈ [(12 : ChanNo), 95], ((List.finRange 16).filter fun h => h ≠ (3 : GroupNo) ∧ c ∈ (worked.group h).members).length < 4) := by
  unfold PortFree; decide +kernel

/-- The hypotheses of GroupsTakeMembersMutesAndMasters are met. -/
theorem witness_Groups_conflict : let s := { quiet with groups := Vector.replicate 16 { members := [12] } }
    ∃ c ∈ [(12 : ChanNo)], 4 ≤ ((List.finRange 16).filter fun h => h ≠ (3 : GroupNo) ∧ c ∈ (s.group h).members).length := by
  decide +kernel

/-- The hypotheses of MovePositionsFollowTheCurve are met. -/
theorem witness_MovePositionsFollowTheCurve : 0 < (aMove 3).duration ∧ 1500 ≤ (aMove 3).duration ∧ 0 ≤ (aMove 3).duration ∧
    (700 : Position) ≤ (aMove 3).goal ∧ (aMove 3).goal ≤ (1000 : Position) := by decide +kernel

/-- The hypotheses of CueFiresMakeMoves are met. -/
theorem witness_CueFires_plain : quiet.engine.nextId < 65536 ∧
    expandTargets quiet (.list [3]) = [.channel 3] ∧ expandTargets quiet (.master 4) = [.master 4] ∧
    TargetQuiet (.channel 3) (quiet.take (.cueFire 10 [{ plainRecord with targets := .list [3] }] none)) ∧
    (quiet.channel 3).owner = .auto ∧ (quiet.channel 3).safed = false ∧ quiet.engine.moves.length < 128 ∧
    ((quiet.setChannel 3 { safed := true }).channel 3).safed = true := by
  unfold TargetQuiet; decide +kernel

/-- The hypotheses of CueFiresMakeMoves are met. -/
theorem witness_CueFires_records : (∀ xs, .cueFire 10 xs none ∉ quiet.handed) ∧
    (expandTargets quiet (.list [3, 4])).length = 2 := by
  refine ⟨fun xs => ?_, by decide +kernel⟩
  rw [show quiet.handed = [] from rfl]; exact List.not_mem_nil

/-- The hypotheses of CueFiresMakeMoves are met. -/
theorem witness_CueFires_takeover : TargetQuiet (.channel 4) (moving [aMove 4, aMove 5]) ∧
    ((moving [aMove 4, aMove 5]).engine.moves.filter fun m => m.isRunning && decide (m.target = .channel 4)) = [aMove 4] ∧
    (∀ m ∈ (moving [aMove 4, aMove 5]).engine.moves, m.phase ≠ .waiting 0) ∧
    128 ≤ (moving (List.replicate 128 { aMove 4 with phase := .waiting 9 })).engine.moves.length ∧
    TargetQuiet (.channel 4) (moving (List.replicate 128 { aMove 4 with phase := .waiting 9 })) := by
  unfold TargetQuiet; decide +kernel

/-- The hypotheses of CueFiresMakeMoves are met. -/
theorem witness_CueFires_manual :
    retakenAt (quiet.setChannel 3 { owner := .manual, releasePos := 700, pEff := 700 }) (.channel 3) = [3] ∧
    startPosition (quiet.setChannel 3 { owner := .manual, releasePos := 700, pEff := 700 }) (.channel 3) = 700 := by
  decide +kernel

/-- The hypotheses of CueFiresMakeMoves are met. -/
theorem witness_CueFires_yield : Yields (quiet.setChannel 3 { owner := .touched, touchPolicy := .yield }) (.channel 3) :=
  ⟨3, rfl, by decide +kernel⟩

/-- The hypotheses of ChanSetAndGroupSetStartMoves are met. -/
theorem witness_ChanSet_plain : PortFree quiet ∧ (∀ x ∈ [(3 : ChanNo), 95, 0], (quiet.channel x).owner = .auto ∧
      (quiet.channel x).safed = false ∧ TargetQuiet (.channel x) quiet) ∧ [(3 : ChanNo), 95, 0].Nodup ∧
    TargetQuiet (.master 0) quiet ∧ quiet.engine.moves.length + 3 ≤ 128 ∧ quiet.engine.nextId < 65536 := by
  unfold PortFree TargetQuiet; decide +kernel

/-- The hypotheses of ChanSetAndGroupSetStartMoves are met. -/
theorem witness_ChanSet_takeover : PortFree (moving [aMove 4]) ∧ TargetQuiet (.channel 4) (moving [aMove 4]) ∧
    ((moving [aMove 4]).channel 4).safed = false ∧ (∀ m ∈ (moving [aMove 4]).engine.moves, m.phase ≠ .waiting 0) ∧
    ((moving [aMove 4]).setChannel 5 { owner := .manual, releasePos := 700 }).engine.moves.length + 2 ≤ 128 ∧
    ((quiet.setChannel 3 { safed := true }).channel 3).owner = .auto ∧
    ((quiet.setChannel 3 { safed := true, owner := .manual }).channel 3).safed = true := by
  unfold PortFree TargetQuiet; decide +kernel

/-- The hypotheses of ChanSetAndGroupSetStartMoves are met. -/
theorem witness_ChanSet_full : let s := moving (List.replicate 128 { aMove 4 with phase := .waiting 9 })
    PortFree s ∧ TargetQuiet (.channel 3) s ∧ 128 ≤ s.engine.moves.length ∧ (s.channel 3).safed = false ∧
    (∀ m ∈ s.engine.moves, m.phase ≠ .waiting 0) ∧ TargetQuiet (.master 0) s ∧ .occurrence .overflow ∉ s.handed ∧
    ([(3 : ChanNo)] ++ [0, 95]).Nodup ∧ (((s.setChannel 3 { safed := true }).channel 3).safed = true) := by
  unfold PortFree TargetQuiet; decide +kernel

/-- The hypotheses of MovesAdvanceAndComplete are met. -/
theorem witness_MovesAdvanceAndComplete :
    let s := moving [{ aMove 3 with phase := .running 2998 100 }, { aMove 4 with phase := .running 2999 100 },
      { aMove 5 with phase := .waiting 2 }]
    s.engine.held = false ∧ (∀ m ∈ s.engine.moves, m.phase ≠ .waiting 0 ∧ m.phase ≠ .waiting 1) ∧
      (∃ m ∈ s.engine.moves, m.id = 4 ∧ m.phase = .running 2999 100 ∧ m.duration ≤ 3000) ∧
      .moveEngineClockStep 0 = s.nextStep (.moveEngineClockStep ·) ∧
      ({ s with engine := { s.engine with held := true } } : State).engine.held = true := by decide +kernel

/-- The hypotheses of WaitingMovesStart are met. -/
theorem witness_WaitingMovesStart :
    let s := moving [{ aMove 3 with phase := .waiting 2 }, { aMove 4 with phase := .running 1500 100, id := 8 },
      { aMove 4 with phase := .waiting 1 }, { aMove 5 with phase := .waiting 1, duration := 0 }, aMove 7]
    s.engine.held = false ∧ (∀ m ∈ s.engine.moves, m.phase ≠ .waiting 0) ∧
      ((s.engine.moves.filter fun m => m.phase = .waiting 1).map Move.target) = [.channel 4, .channel 5] ∧
      (∀ m ∈ s.engine.moves, TargetQuiet m.target (s.take (.moveEngineClockStep 0))) ∧
      .moveEngineClockStep 0 = s.nextStep (.moveEngineClockStep ·) := by
  unfold TargetQuiet; decide +kernel

/-- The hypotheses of WaitingMovesStart are met. -/
theorem witness_WaitingMovesStart_owners :
    Yields (quiet.setChannel 4 { owner := .touched, touchPolicy := .yield }) (.channel 4) ∧
      retakenAt (quiet.setChannel 5 { owner := .manual, releasePos := 9 }) (.channel 5) = [5] :=
  ⟨⟨4, rfl, by decide +kernel⟩, by decide +kernel⟩

/-- The hypotheses of WaitingMovesStart are met. -/
theorem witness_WaitingMovesStart_chain :
    let s := moving [{ aMove 3 with phase := .waiting 2 }, { aMove 4 with phase := .waiting 1 }, { aMove 4 with phase := .waiting 1 }]
    s.engine.moves = [{ aMove 3 with phase := .waiting 2 }] ++ { aMove 4 with phase := .waiting 1 } :: [] ++
        { aMove 4 with phase := .waiting 1 } :: [] ∧
      (s.channel 4).owner = .auto ∧ (aMove 4).mute ≠ .unmuteAtStart ∧ (aMove 4).duration ≠ 0 ∧
      TargetQuiet (.channel 4) (s.take (.moveEngineClockStep 7)) := by
  unfold TargetQuiet; decide +kernel

/-- The hypotheses of CueLoadPartsAreStaged are met. -/
theorem witness_CueLoadPartsAreStaged : PortFree quiet ∧ ((partOf 0 0).part = 0 ↔ (partOf 0 0).header.isSome = true) ∧
    partInRange quiet.store.buffer (partOf 0 0) ∧ (partOf 0 0).last = 0 ∧
    ¬partInRange quiet.store.buffer { partOf 0 0 with cue := 0 } ∧ ¬partInRange quiet.store.buffer (partOf 0 2) ∧
    ((partOf 1 0).part = 0 ↔ (partOf 1 0).header.isSome = true) ∧ (partOf 1 0).part ≠ 0 ∧ quiet.store.buffer = none := by
  refine ⟨⟨rfl, rfl⟩, by decide, ?_, rfl, ?_, ?_, by decide, by decide, rfl⟩ <;> simp [partInRange, stagedBefore, headerInRange, recordInRange, targetsInForm, partOf, rawRecord]

/-- The hypotheses of CueLoadPartsAreStaged are met. -/
theorem witness_CueLoadPartsAreStaged_later :
    let s (n : Nat) : State := { quiet with store := { buffer := some ⟨250, plainHeader, List.replicate n plainRecord, 1⟩ } }
    PortFree (s 62) ∧ partInRange (s 62).store.buffer (partOf 1 0) ∧ ¬partInRange (s 63).store.buffer (partOf 1 0) ∧
      (partOf 1 0).part = 1 := by
  refine ⟨⟨rfl, rfl⟩, ?_, ?_, rfl⟩ <;> simp [partInRange, stagedBefore, headerInRange, recordInRange, targetsInForm, partOf, rawRecord]

/-- The hypotheses of CommitsPutTheCueIntoTheList are met. -/
theorem witness_CommitsPutTheCueIntoTheList : PortFree quiet ∧ ListLegal quiet ∧
    ((partOf 0 1).part = 0 ↔ (partOf 0 1).header.isSome = true) ∧ partInRange quiet.store.buffer (partOf 0 1) ∧
    (partOf 0 1).last = 1 := by
  refine ⟨⟨rfl, rfl⟩, by unfold ListLegal; decide +kernel, by decide, ?_, rfl⟩
  simp [partInRange, stagedBefore, headerInRange, recordInRange, targetsInForm, partOf, rawRecord]

/-- The hypotheses of CommitsPutTheCueIntoTheList are met. -/
theorem witness_CommitsPutTheCueIntoTheList_full :
    ¬((fullList.store.cues.length + (if lookupExact fullList.store.cues 250 = none then 1 else 0) ≤ 512)) ∧
    fullList.store.cues.length ≤ 512 := by decide +kernel

/-- The hypotheses of DeleteAndClearEditTheList are met. -/
theorem witness_DeleteAndClearEditTheList : PortFree twoCues ∧ ListLegal twoCues ∧ lookupExact twoCues.store.cues 10 ≠ none ∧
    lookupExact twoCues.store.cues 11 = none ∧ lookupExact twoCues.store.cues 0 = none := by
  unfold PortFree ListLegal; decide +kernel

/-- The hypotheses of MoveRecordsReadBack are met. -/
theorem witness_MoveRecordsReadBack :
    MoveRecord.wellFormed { plainRecord with targets := .list [3, 95], delay := 600000 } = true := by decide +kernel

/-- The hypotheses of GoFiresTheStandby are met. -/
theorem witness_GoFiresTheStandby : PortFree twoCues ∧ twoCues.seq.state = .ready ∧ twoCues.seq.standby = some 10 ∧
    (∃ n ∈ some 100000, n < 1 ∨ 99999 < n) ∧ 417 = twoCues.store.generation ∧ (twoCues.seq.standby.bind (lookupAtOrAbove twoCues.store.cues)).isSome = true ∧
    quiet.seq.state = .empty ∧ (some 99999).bind (lookupAtOrAbove twoCues.store.cues) = none := by
  unfold PortFree; decide +kernel

/-- The hypotheses of GotoSetsTheStandbyOrFires are met. -/
theorem witness_GotoSetsTheStandbyOrFires : PortFree twoCues ∧ lookupExact twoCues.store.cues 20 ≠ none ∧
    lookupExact twoCues.store.cues 1 = none ∧ lookupExact twoCues.store.cues 99999 = none ∧ twoCues.seq.state ≠ .held ∧
    ({ twoCues with seq := { twoCues.seq with state := .held } } : State).seq.state = .held := by
  unfold PortFree; decide +kernel

/-- The hypotheses of GotoSetsTheStandbyOrFires are met. -/
theorem witness_Goto_fire_option_0 : (match exec (.goto 7 (.fields ⟨20, 0⟩)) twoCues with
    | .next t => decide (t.seq.standby = some 20 ∧ t.handed = [] ∧ t.port.reply.map Reply.status = some .ok)
    | _ => false) = true := by decide +kernel

/-- The hypotheses of GotoSetsTheStandbyOrFires are met. -/
theorem witness_Goto_fire_option_1 : (match exec (.goto 7 (.fields ⟨20, 1⟩)) twoCues with
    | .next t => decide (t.seq.lastFired = some 20 ∧ t.handed = [.cueFire 20 [plainRecord] none] ∧
        t.port.reply.map Reply.status = some .ok)
    | _ => false) = true := by decide +kernel

/-- The hypotheses of GotoSetsTheStandbyOrFires are met. -/
theorem witness_Goto_fire_option_2 : (match exec (.goto 7 (.fields ⟨20, 2⟩)) twoCues with
    | .next t => decide (t.seq = twoCues.seq ∧ t.handed = [] ∧ t.port.reply.map Reply.status = some .range)
    | _ => false) = true := by decide +kernel

/-- The hypotheses of BackFiresTheCueBelow are met. -/
theorem witness_BackFiresTheCueBelow :
    let s : State := { twoCues with seq := { twoCues.seq with lastFired := some 20 } }
    PortFree s ∧ (s.seq.lastFired.bind (lookupBelow s.store.cues)).isSome = true ∧
      twoCues.seq.lastFired.bind (lookupBelow twoCues.store.cues) = none := by unfold PortFree; decide +kernel

/-- The hypotheses of HoldStopAndBackTime are met. -/
theorem witness_HoldStopAndBackTime : PortFree twoCues ∧ twoCues.seq.state ≠ .held := by unfold PortFree; decide +kernel

/-- The hypotheses of ResumeEndsTheHold are met. -/
theorem witness_ResumeEndsTheHold :
    let held (ts : List Trigger) : State := { twoCues with seq := { twoCues.seq with state := .held, schedule := ts } }
    PortFree (held []) ∧ (held []).seq.state = .held ∧ holds (held []).seq.action = false ∧
      (held [⟨5, 10, true⟩, ⟨6, 11, true⟩, ⟨6, 20, true⟩, ⟨9, 10, false⟩]).seq.schedule.filter Trigger.due =
        [⟨5, 10, true⟩, ⟨6, 11, true⟩, ⟨6, 20, true⟩] ∧
      lookupExact (held []).store.cues 10 ≠ none ∧ lookupExact (held []).store.cues 11 = none := by
  unfold PortFree; decide +kernel

/-- The hypotheses of FollowsCountDownAndExpire are met. -/
theorem witness_FollowsCountDownAndExpire :
    let following (n : Nat) : State :=
      { twoCues with seq := { twoCues.seq with state := .following, follow := some ⟨n, 10⟩, schedule := [⟨100, 20, false⟩] } }
    (∀ x ∈ (following 1).seq.schedule, x.due = true ∨ 99 < x.time) ∧ (following 1).seq.state ≠ .held ∧
      (following 2).seq.follow = some ⟨2, 10⟩ ∧ (following 1).seq.follow = some ⟨1, 10⟩ ∧
      ((following 1).seq.standby.bind (lookupAtOrAbove (following 1).store.cues)).isSome = true := by decide +kernel

/-- The hypotheses of TriggersComeDue are met. -/
theorem witness_TriggersComeDue :
    let s : State := { twoCues with seq := { twoCues.seq with state := .following, follow := some ⟨1, 10⟩, schedule :=
      [⟨5, 10, true⟩, ⟨99, 11, false⟩, ⟨100, 20, false⟩, ⟨101, 10, false⟩] } }
    s.seq.state ≠ .held ∧
      (s.seq.schedule.filter fun x => !x.due && decide (x.time ≤ 100)) = [⟨99, 11, false⟩, ⟨100, 20, false⟩] ∧
      (s.seq.standby.bind (lookupAtOrAbove s.store.cues)).isSome = true ∧
      lookupExact s.store.cues 20 ≠ none ∧ lookupExact s.store.cues 11 = none := by decide +kernel

/-- The hypotheses of ScheduleListIsKeptInOrder are met. -/
theorem witness_ScheduleListIsKeptInOrder :
    let s (ts : List Trigger) : State := { twoCues with seq := { twoCues.seq with schedule := ts } }
    PortFree (s []) ∧ (s [⟨5, 10, true⟩, ⟨5, 20, false⟩]).seq.schedule.Pairwise (fun a b => a.time ≤ b.time) ∧
      (s [⟨5, 10, true⟩, ⟨5, 20, false⟩]).seq.schedule.length < 16 ∧ 16 ≤ (s (List.replicate 16 ⟨5, 10, true⟩)).seq.schedule.length ∧
      (s (List.replicate 16 ⟨5, 10, true⟩)).seq.schedule.Pairwise (fun a b => a.time ≤ b.time) := by
  unfold PortFree; decide +kernel

/-- The hypotheses of ClockStepsAndPulsesKeepTheLock are met. -/
theorem witness_ClockSteps_paces : ClockLegal quiet ∧ quiet.clock.due = 0 ∧
    ClockLegal (quiet.setClock { source := .external, lock := .locked 79999, rho := 1001, pace := 1001, mark := some 0, due := 3 }) ∧
    ClockLegal (quiet.setClock { source := .external, lock := .holdover 2000000, carry := 999999999 }) := by
  unfold ClockLegal; decide +kernel

/-- The hypotheses of ClockStepsAndPulsesKeepTheLock are met. -/
theorem witness_ClockSteps_pulse :
    let k : Clock := { source := .external, lock := .acquiring 7, mark := some 0, history := List.replicate 7 39960 }
    ClockLegal (quiet.setClock k) ∧ (quiet.setClock k).clock.source = .external ∧ (quiet.setClock k).clock.lock ≠ .free ∧
    39200 ≤ 39960 - 0 ∧ 39960 - 0 ≤ 40800 ∧ 0 < 25 * (List.replicate 8 39960).sum := by unfold ClockLegal; decide +kernel

/-- The hypotheses of ClockRequestsTakeEffect are met. -/
theorem witness_ClockRequests : PortFree quiet ∧ quiet.clock.lock = .free ∧
    (quiet.setClock { source := .external, lock := .lost }).clock.lock ≠ .free ∧ (24 : Nat) ≠ quiet.clock.rate := by
  unfold PortFree; decide +kernel

/-- The hypotheses of ScansReportPositionsAndTouches are met. -/
theorem witness_Scans_range : quiet.surface.settings.start ≤ (23 : StripNo).val ∧ (23 : StripNo).val ≤ quiet.surface.settings.stop ∧
    (quiet.strip 3).low < (quiet.strip 3).high := by decide +kernel

/-- The hypotheses of ScansReportPositionsAndTouches are met. -/
theorem witness_Scans_states :
    let strip (st : StripState) (p : Position) : State := quiet.setStrip 3 { state := st, channel := some 3, target := some p }
    ((strip (.seeking 399) 512).strip 3).state = .seeking 399 ∧ 400 ≤ 399 + 1 ∧ ((strip (.seeking 399) 512).strip 3).timeouts = 0 ∧
    distance (((strip (.seeking 399) 512).strip 3).convert 2048) 512 ≤ 4 ∧
    ¬distance (((strip (.seeking 399) 512).strip 3).convert 2048) 700 ≤ 4 ∧
    ((strip (.tracking 2) 512).strip 3).state = .tracking 2 ∧ ((strip (.touched none) 512).strip 3).state = .touched none ∧
    ((strip (.touched (some 249)) 512).strip 3).state = .touched (some 249) ∧ ((strip .unmapped 5).strip 3).state = .unmapped := by
  decide +kernel

/-- The hypotheses of CalibrationsMeasureTheTravel are met. -/
theorem witness_Calibrations :
    let s := quiet.setStrip 3 { state := .calibrating { phase := .topSettle, scans := 99, total := 300 }, channel := some 3 }
    (s.strip 3).state = .calibrating { phase := .topSettle, scans := 99, total := 300 } ∧
    s.surface.settings.start ≤ (3 : StripNo).val ∧ (3 : StripNo).val ≤ s.surface.settings.stop ∧
    ({ phase := .topSettle, scans := 99, total := 300 } : Calibration).phase ≠ .waitRelease ∧
    (∀ a ∈ ({ phase := .topSettle, scans := 99, total := 300 } : Calibration).raws, a < 4096) ∧
    ({ phase := .topSettle, scans := 99, total := 300 } : Calibration).newLow + 2048 ≤ (4000 : Fin 4096).val := by decide +kernel

/-- The hypotheses of CalibrationsMeasureTheTravel are met. -/
theorem witness_Calibrations_release :
    let s := quiet.setStrip 3 { state := .calibrating { phase := .waitRelease }, channel := some 3, offRun := 1 }
    (s.strip 3).state = .calibrating { phase := .waitRelease } ∧ s.surface.settings.start ≤ (3 : StripNo).val ∧
    (3 : StripNo).val ≤ s.surface.settings.stop ∧ s.surface.settings.debounce ≤ (s.strip 3).offRun + 1 ∧
    (0 : Byte).toNat ≤ s.surface.settings.release ∧ (s.strip 3).channel ≠ none := by decide +kernel

/-- The hypotheses of BanksBringStripsTheirChannels are met. -/
theorem witness_Banks : (∀ b : BankNo, ∀ (m n : StripNo), quiet.surface.banks[b][m] = quiet.surface.banks[b][n] →
    quiet.surface.banks[b][m] ≠ none → m = n) ∧ PortFree quiet ∧ 22 + [(none : Option ChanNo), none].length ≤ 24 := by
  unfold PortFree; decide +kernel

/-- The hypotheses of SurfaceEventsAndSettingsAct are met. -/
theorem witness_SurfaceEvents : (quiet.strip 3).channel = some 3 ∧ (quiet.strip 3).channel ≠ some 4 ∧ PortFree quiet ∧
    [(3 : StripNo), 23].Nodup ∧ ¬[(3 : Nat), 3].Nodup ∧ 24 < (List.range 25).length ∧ (∃ n ∈ [(24 : Nat)], 23 < n) ∧ ((quiet.setStrip 3 { state := .tracking 1, channel := some 3, converted := 100 }).strip 3).state =
      .tracking 1 ∧ 4 < distance (100 : Position) 700 ∧
    ((quiet.setStrip 3 { state := .disabled, channel := some 3 }).strip 3).state ≠ .absent ∧
    (0 ≤ 23 ∧ 11 ≤ 23 ∧ 1 ≤ 96 ∧ 64 < 96 ∧ 5 ≤ 32) ∧
    ¬(quiet.surface.settings.start = 0 ∧ quiet.surface.settings.stop = 11) ∧
    (∀ n : StripNo, ¬(0 ≤ n.val ∧ n.val ≤ quiet.surface.settings.stop) → (quiet.strip n).motorCondition = false) := by unfold PortFree; decide +kernel

/-- The hypotheses of LinksTrainComeUpAndAreLost are met. -/
theorem witness_LinksTrain : .linkClockStep 0 0 = quiet.nextStep (.linkClockStep 0 ·) ∧ (quiet.link 0).state = .training 50 ∧ (quiet.link 0).tripped = false ∧ (quiet.link 0).queue = [] ∧
    (quiet.link 0).stale = [] ∧ (quiet.link 0).high ≤ 64 ∧
    ((quiet.setLink 0 { quiet.link 0 with state := .up 1 29 }).link 0).state = .up 1 29 ∧
    ((quiet.setLink 0 { quiet.link 0 with state := .fault 1, tripped := true }).link 0).state = .fault 1 ∧
    ((quiet.setLink 0 { quiet.link 0 with state := .fault 1, tripped := true }).link 0).tripped = true ∧
    ((quiet.setLink 0 { quiet.link 0 with state := .off }).link 0).state = .off := by decide +kernel

/-- The hypotheses of LinkQueuesCoalesceDecimateAndDrain are met. -/
theorem witness_LinkQueues :
    let s := quiet.setLink 0 { quiet.link 0 with
      state := .up 5 3, queue := [(3, .off), (9, .tenths 5)], congested := true, stale := [7] }
    (s.link 0).isUp = true ∧ (s.link 0).queue ≠ [] ∧ (s.link 0).lastFrame = none ∧
    (∀ slot ∈ (s.link 0).stale, ∀ e ∈ (s.link 0).queue, e.1 ≠ slot) ∧ (quiet.link 0).isUp = false ∧
    (∀ last ∈ (some 100 : Option Nat), ¬350 < last + 250 ∧ 349 < last + 250) := by decide +kernel

/-- The hypotheses of LinkRequestsTakeEffect are met. -/
theorem witness_LinkRequests : PortFree quiet ∧ 63 + [(some 95 : Option ChanNo)].length ≤ 64 ∧
    ((quiet.setLink 0 { quiet.link 0 with state := .off, enable := false }).link 0).state = .off ∧
    ((quiet.setLink 0 { quiet.link 0 with state := .off, enable := false }).link 0).enable = false ∧
    (∃ x ∈ [(some 96 : Option Nat)], ∃ n ∈ x, 95 < n) ∧ (quiet.link 0).enable = true ∧ (quiet.link 0).state ≠ .off ∧
    ((quiet.setLink 0 { quiet.link 0 with state := .up 5 3 }).link 0).isUp = true := by unfold PortFree; decide +kernel

/-- The hypotheses of OccurrencesCountAndTrip are met. -/
theorem witness_Occurrences : PortFree quiet ∧ (quiet.source .frame).state ≠ .tripped ∧ 1 < (quiet.source .frame).trip ∧
    (quiet.source .watchdog).trip ≤ 1 ∧
    ((quiet.setSource .clock { state := .tripped, count := 255 }).source .clock).state = .tripped ∧
    ((quiet.setSource .frame { state := .counting, count := 2, trip := 4 }).source .frame).state = .counting := by
  unfold PortFree; decide +kernel

/-- The hypotheses of FaultsAreClearedAndConfigured are met. -/
theorem witness_FaultsAreCleared : PortFree quiet ∧
    ((quiet.setSource (.link 0) { state := .tripped, count := 1 }).source (.link 0)).state = .tripped ∧
    ((quiet.setSource (.link 0) { state := .tripped, count := 1 }).link 0).isUp = false ∧
    ((quiet.setSource .watchdog { state := .tripped, count := 1 }).source .watchdog).state = .tripped ∧
    ((quiet.setSource .frame { state := .counting, count := 3, trip := 4 }).source .frame).state = .counting ∧
    3 ≤ ((quiet.setSource .frame { state := .counting, count := 3, trip := 4 }).source .frame).count := by
  unfold PortFree; decide +kernel

/-- The hypotheses of StepRunsTheFrontCommand are met. -/
theorem witness_StepRunsTheFrontCommand : ({ State.reset with pending := [.clockStep] } : State).pending = .clockStep :: [] := rfl

/-- The hypotheses of IdlePartTakesEventsThenRequestsThenFrames are met. -/
theorem witness_IdlePart_event : State.reset.pending = [] ∧ State.reset.handed ≠ [] := by decide +kernel

/-- The hypotheses of IdlePartTakesEventsThenRequestsThenFrames are met. -/
theorem witness_IdlePart_step : (quiet.setClock { due := 1 }).handed = [] ∧ (quiet.setClock { due := 1 }).clock.due ≠ 0 ∧
    quiet.clock.due = 0 := by decide +kernel

/-- The hypotheses of IdlePartTakesEventsThenRequestsThenFrames are met. -/
theorem witness_IdlePart_scan : (quiet.setStrip 3 { quiet.strip 3 with owed := 1 }).handed = [] ∧
    0 < ((quiet.setStrip 3 { quiet.strip 3 with owed := 1 }).strip 3).owed ∧
    (∀ n : StripNo, n < 3 → ((quiet.setStrip 3 { quiet.strip 3 with owed := 1 }).strip n).owed = 0) ∧
    ((quiet.setStrip 3 { quiet.strip 3 with owed := 1 }).strip 3).state ≠ .absent := by decide +kernel

/-- The hypotheses of IdlePartTakesEventsThenRequestsThenFrames are met. -/
theorem witness_IdlePart_frame : (∀ n : StripNo, (quiet.strip n).owed = 0) ∧
    ((quiet.setLink 1 { quiet.link 1 with state := .up 5 3, queue := [(3, .off)] }).link 1).isUp = true ∧
    ((quiet.setLink 1 { quiet.link 1 with state := .up 5 3, queue := [(3, .off)] }).link 0).isUp = false ∧
    ((quiet.setLink 1 { quiet.link 1 with state := .up 5 3, queue := [(3, .off)] }).link 1).lastFrame = none := by decide +kernel

/-- The hypotheses of IdlePartTakesEventsThenRequestsThenFrames are met. -/
theorem witness_IdlePart_port : quiet.pending = [] ∧ quiet.handed = [] ∧ quiet.port.sending = none ∧ quiet.port.reply = none ∧
    quiet.port.resetWaiting = none ∧ quiet.port.inbound = [] ∧ quiet.port.reports = [] := by decide +kernel

/-- The hypotheses of IdlePartTakesEventsThenRequestsThenFrames are met. -/
theorem witness_IdlePart_reset : (quietPort { resetWaiting := some .links }).port.resetWaiting ≠ none ∧
    (quietPort { resetWaiting := some .links }).port.reply = none ∧
    (quietPort { resetWaiting := some .links }).port.sending ≠ some .reply := by decide +kernel

/-- The hypotheses of IdlePartTakesEventsThenRequestsThenFrames are met. -/
theorem witness_IdlePart_request : (quietPort { inbound := [identRequest] }).port.inbound = identRequest :: [] ∧
    (quietPort { inbound := [identRequest] }).port.reply = none := by decide +kernel

/-- The hypotheses of IdlePartTakesEventsThenRequestsThenFrames are met. -/
theorem witness_IdlePart_frames : (quietPort { sending := some .report }).port.sending ≠ none ∧
    (quietPort { sending := some .report }).port.resetWaiting = none ∧ (quietPort { sending := some .report }).port.inbound = [] ∧
    (quietPort { reply := some someReply }).port.reply ≠ none ∧ (quietPort { reply := some someReply }).port.sending = none ∧
    (quietPort { reports := [.level 3 .off false] }).port.reports ≠ [] := by decide +kernel

/-- The hypotheses of EveryRequestIsAnswered are met. -/
theorem witness_EveryRequestIsAnswered : PortFree (quietPort { inbound := [identRequest] }) ∧
    (quietPort { inbound := [identRequest] }).port.inbound = identRequest :: [] ∧ (0x80 : Byte) ∉ Config.requestCodes ∧ (0x01 : Byte) ∈ Config.requestCodes ∧
    ({ tag := 7, code := 0x22, payload := [0, 0, 20] } : Request).payload.length ∉ [4] := by
  unfold PortFree; decide +kernel

/-- The hypotheses of ReceiverHuntsAndDiscards are met. -/
theorem witness_ReceiverHuntsAndDiscards : quiet.port.receiver = .hunt ∧
    (quietPort { receiver := .frame [0, 1, 2, 3, 4, 5] }).port.receiver = .frame ([0, 1, 2, 3, 4] ++ [] ++ [5]) ∧
    [(5 : Byte), 0] ≠ crcBytes ([1, 2, 3, 4] ++ []) ∧ (quietPort { receiver := .frame [] }).port.receiver = .frame [] ∧
    250 < (251 : Byte).toNat := by decide +kernel

/-- The hypotheses of GoodFramesAreQueued are met. -/
theorem witness_GoodFramesAreQueued : quiet.port.receiver = .hunt ∧
    frameBytes 1 7 1 0 [] = [0xA5, 0, 1, 7, 1, 0, 0x44] ++ [0xD5] ∧ quiet.port.inbound.length < 8 ∧
    (quietPort { inbound := List.replicate 8 identRequest }).port.receiver = .hunt ∧
    8 ≤ (quietPort { inbound := List.replicate 8 identRequest }).port.inbound.length := by decide +kernel

/-- The hypotheses of TransmitterSendsRepliesFirst are met. -/
theorem witness_TransmitterSendsRepliesFirst : (quietPort { reply := some someReply }).port.sending = none ∧
    (quietPort { reply := some someReply }).port.reply = some someReply ∧
    (quietPort { reports := [.level 3 .off false] }).port.reports = .level 3 .off false :: [] ∧
    (quietPort { sending := some .reply }).port.sending ≠ none := by decide +kernel

/-- The hypotheses of SegmentedRepliesJoin are met. -/
theorem witness_SegmentedRepliesJoin : (quietPort { reply := some { someReply with payload := List.replicate 300 7 } }).port.reply =
      some { someReply with payload := List.replicate 300 7 } ∧ someReply.next = 0 ∧
    (quietPort { reply := some { someReply with payload := List.replicate 300 7 } }).port.sending = none := by decide +kernel

/-- The hypotheses of ReportsArePlaced are met. -/
theorem witness_ReportsArePlaced : State.reset.port.enables[(Report.schedule true 1 2 3).kind.index] = true ∧
    (Report.schedule true 1 2 3).levelChannel = none ∧ State.reset.port.reports.length < 32 ∧
    State.reset.port.enables[(Report.level 3 .off false).kind.index] = false ∧
    (watching.port.enables[(Report.level 3 .off false).kind.index] = true ∧
      ∃ w ∈ watching.port.watches.toList, w.inUse = true ∧ (3 : ChanNo).val &&& w.mask = w.value &&& w.mask) := by decide +kernel

/-- The hypotheses of IdentAndStatusAreRead are met. -/
theorem witness_IdentAndStatusAreRead : PortFree State.reset := by unfold PortFree; decide +kernel

/-- The hypotheses of HeartbeatIsJudged are met. -/
theorem witness_HeartbeatIsJudged_timer : (∀ x ∈ [1998, 1999],
      (quietPort { heartbeat := { timer := some x } }).port.heartbeat.timer = some x) ∧
    .portClockStep 0 = (quietPort {}).nextStep (.portClockStep ·) ∧ 1998 + 1 < (quietPort {}).port.heartbeat.upper ∧ (quietPort {}).port.heartbeat.upper ≤ 1999 + 1 := by decide +kernel

/-- The hypotheses of HeartbeatIsJudged are met. -/
theorem witness_HeartbeatIsJudged : PortFree quiet ∧ quiet.port.heartbeat.timer = none ∧
    (∀ x ∈ [99, 100], PortFree (quietPort { heartbeat := { lower := 100, timer := some x } }) ∧
      (quietPort { heartbeat := { lower := 100, timer := some x } }).port.heartbeat.timer = some x) := by
  unfold PortFree; decide +kernel

/-- The hypotheses of ReportModeAndWatchesAreWritten are met. -/
theorem witness_ReportModeAndWatchesAreWritten : PortFree quiet ∧ (∃ x ∈ [(0 : Nat), 1, 2, 0, 0, 0, 0, 0, 0], 1 < x) := by unfold PortFree; decide +kernel

/-- The hypotheses of ResetWaitsForItsReply are met. -/
theorem witness_ResetWaitsForItsReply : PortFree quiet ∧ (quietPort { resetWaiting := some .all }).port.reply = none ∧
    (quietPort { resetWaiting := some .all }).port.resetWaiting = some .all ∧ quiet.port.resetWaiting = none := by
  unfold PortFree; decide +kernel

/-- The hypotheses of PowerOnRestoresEveryBlock are met. -/
theorem witness_PowerOnRestoresEveryBlock : (quietPort { resetWaiting := some .all }).port.reply = none ∧
    (quietPort { resetWaiting := some .all }).port.resetWaiting = some .all := by decide +kernel

/-- The hypotheses of ShowReadoutsCarryTheirFields are met. -/
theorem witness_ShowReadouts : PortFree twoCues ∧ 80 + 16 ≤ 96 ∧ 96 < 81 + 16 ∧ 0 + 16 ≤ 16 ∧
    twoCues.store.cues.Pairwise (fun a b => a.number < b.number) ∧ lookupExact twoCues.store.cues 10 ≠ none ∧
    lookupExact twoCues.store.cues 11 = none ∧ lookupAtOrAbove twoCues.store.cues 11 ≠ none := by unfold PortFree; decide +kernel

/-- The hypotheses of DeviceReadoutsCarryTheirFields are met. -/
theorem witness_DeviceReadouts : PortFree State.reset ∧ 0 + 24 ≤ 24 ∧ 24 < 1 + 24 ∧ 0 + 64 ≤ 64 := by unfold PortFree; decide +kernel

/-- The hypotheses of PartialResetsReachTheirBlocks are met. -/
theorem witness_PartialResets : (∀ scope ∈ [Scope.playback, .surface, .links],
      (quietPort { resetWaiting := some scope }).port.reply = none ∧
      (quietPort { resetWaiting := some scope }).port.resetWaiting = some scope) ∧
    (∀ e ∈ (quietPort { resetWaiting := some .playback }).handed, isEngineOrder e = false) ∧
    (∀ e ∈ (quietPort { resetWaiting := some .surface }).handed, ∀ c, isSurfaceEvent c e = false) := by decide +kernel

/-- The hypotheses of PartialResetsReachTheirBlocks are met. -/
theorem witness_PartialResets_touched :
    let s := ((quietPort { resetWaiting := some .surface }).setStrip 3
      { state := .touched (some 4), channel := some 3, reported := 500 }).setChannel 3 { owner := .touched, pEff := 500, pOp := 500 }
    (s.strip 3).isTouched = true ∧ (s.strip 3).channel = some 3 ∧ s.port.reply = none ∧ s.port.resetWaiting = some .surface ∧
    (∀ m n, (s.strip m).channel = (s.strip n).channel → (s.strip m).channel ≠ none → m = n) := by decide +kernel

/-- The hypotheses of PartialResetsReachTheirBlocks are met. -/
theorem witness_PartialResets_strips : StripsLegal (quietPort { resetWaiting := some .surface }) := by
  unfold StripsLegal; decide +kernel

/-- The hypotheses of PartialResetsReachTheirBlocks are met. -/
theorem witness_PartialResets_inFlight :
    let s := { (quietPort { resetWaiting := some .surface }).setStrip 3 { state := .touched none, channel := some 3 } with
      handed := [.rotation, .touchEvent 3 3 500] }
    s.handed = [.rotation] ++ .touchEvent 3 3 500 :: [] ∧ isSurfaceEvent 3 (.touchEvent 3 3 500) = true ∧
    (∀ x ∈ [Instr.rotation], isSurfaceEvent 3 x = false) ∧ (s.strip 3).isTouched = true ∧ (s.strip 3).channel = some 3 ∧
    (∀ m : StripNo, m < 3 → (s.strip m).isTouched = false) ∧ s.port.reply = none ∧ s.port.resetWaiting = some .surface ∧
    isEngineOrder (.cueFire 10 [] none) = true := by decide +kernel

/-- The hypotheses of CueListAndLevelsStayLegal are met. -/
theorem witness_CueListAndLevelsStayLegal_step : ∃ t, step State.reset = .next t := ⟨_, rfl⟩

/-- The hypotheses of CueListAndLevelsStayLegal are met. -/
theorem witness_CueListAndLevelsStayLegal : ListLegal State.reset ∧ LevelsLegal State.reset ∧ ListLegal twoCues := by
  unfold ListLegal LevelsLegal; decide +kernel

/-- The hypotheses of TablesAndQueuesStayLegal are met. -/
theorem witness_TablesAndQueuesStayLegal_step : ∃ t, step { worked with pending := [.rotation] } = .next t := ⟨_, rfl⟩

/-- The hypotheses of TablesAndQueuesStayLegal are met. -/
theorem witness_TablesAndQueuesStayLegal : SpareEmpty worked ∧ GroupsLegal worked ∧ MovesLegal (moving [aMove 3, aMove 4]) ∧
    QueuesLegal (quietPort { inbound := [identRequest] }) ∧ worked.engine.nextId < 65536 := by
  unfold SpareEmpty GroupsLegal MovesLegal QueuesLegal; decide +kernel

/-- The hypotheses of StripsAndLinksStayLegal are met. -/
theorem witness_StripsAndLinksStayLegal_step : ∃ t, step { State.reset with pending := [.ready 0] } = .next t := ⟨_, rfl⟩

/-- The hypotheses of StripsAndLinksStayLegal are met. -/
theorem witness_StripsAndLinksStayLegal : StripsLegal State.reset ∧ LinksLegal State.reset := by
  unfold StripsLegal LinksLegal Link.legal; decide +kernel

/-- The hypotheses of FaultsAndPlaybackStayLegal are met. -/
theorem witness_FaultsAndPlaybackStayLegal_step : ∃ t, step { State.reset with pending := [.occurrence .clock] } = .next t :=
  ⟨_, rfl⟩

/-- The hypotheses of FaultsAndPlaybackStayLegal are met. -/
theorem witness_ClockStaysLegal : (∃ t, step { State.reset with pending := [.clockStep] } = .next t) ∧ ClockLegal State.reset ∧
    ClockLegal (quiet.setClock { source := .external, lock := .locked 83333, rate := 24, rho := 20408, pace := -19608 }) :=
  ⟨⟨_, rfl⟩, by unfold ClockLegal; decide +kernel⟩

/-- The hypotheses of FaultsAndPlaybackStayLegal are met. -/
theorem witness_FaultsAndPlaybackStayLegal : FaultsLegal State.reset ∧ PlaybackLegal State.reset := by
  refine ⟨⟨by decide +kernel, fun src => ?_⟩, by unfold PlaybackLegal; decide +kernel⟩
  cases src <;> simp [State.source, FaultMonitor.record, State.reset]

/-- The hypotheses of ReportPayloadsAreLaidOut are met. -/
theorem witness_ReportPayloads_fault :
    let s := quietPort { reports := [.fault (.link 3) false 4 .freeze .safe, .level 3 .off false] }
    s.port.sending = none ∧ s.port.reply = none ∧
    s.port.reports = .fault (.link 3) false 4 .freeze .safe :: [.level 3 .off false] ∧
    (∀ w ∈ [((1 : Nat), (5 : Nat)), (1, 0), (1, 4), (1, 2), (1, 3)], w.2 < 256 ^ w.1) := by decide +kernel

/-- The hypotheses of ReportPayloadsAreLaidOut are met. -/
theorem witness_ReportPayloads_boundaries :
    (∀ w ∈ [((2 : Nat), (65535 : Nat)), (3, 99999), (1, 111), (1, 5), (2, 1023)], w.2 < 256 ^ w.1) ∧
    (∀ w ∈ [((4 : Nat), (4294967295 : Nat)), (3, 600000), (2, 0x8000), (1, 255)], w.2 < 256 ^ w.1) ∧
    Report.payload (.moveEnd 65535 (some 99999) (.master 15) .overflow 1023) = [0xFF, 0xFF, 1, 0x86, 0x9F, 111, 5, 3, 0xFF] := by
  decide +kernel

/-! ## The checks of WellFormed: what cannot be given is refused -/

/-- A byte up to 250 is a valid LEN (R185). -/
theorem test_wellFormed_frameLenInvalid : (Instr.frameLenInvalid 250).wellFormed = false := by decide +kernel

/-- 01h is the request code of IDENT, 80h a report code (spec/12_the_control_port.md 12.9). -/
theorem test_wellFormed_unknown :
    (Instr.unknown 1 0x01).wellFormed = false ∧ (Instr.unknown 1 0x80).wellFormed = true := by decide +kernel

/-- A RESET row with another scope's payload (R195). -/
theorem test_wellFormed_reset :
    (Instr.resetPlayback 1 (.badScope 9)).wellFormed = false ∧ (Instr.resetSurface 1 (.badScope 9)).wellFormed = false ∧
      (Instr.resetLinks 1 (.badScope 9)).wellFormed = false ∧ (Instr.resetAll 1 (.badScope 3)).wellFormed = false := by
  decide +kernel

/-- Eight enables; a watch value, a heartbeat limit beyond their bytes (R189, R190, R192). -/
theorem test_wellFormed_port :
    (Instr.reportMode 1 (.fields (some ⟨List.replicate 8 1, 0⟩))).wellFormed = false ∧
      (Instr.watchSet 1 (.fields (some ⟨0, 1, 256, 0⟩))).wellFormed = false ∧
      (Instr.heartbeatConfig 1 (.fields (some ⟨1, 65536, 0⟩))).wellFormed = false := by
  decide +kernel

/-- A part 1 with a header, a part 0 without, and fields beyond their bytes (R97, R105). -/
theorem test_wellFormed_list :
    (Instr.cueLoad 1 (.fields { partOf 0 0 with part := 1 })).wellFormed = false ∧
      (Instr.cueLoad 1 (.fields { partOf 1 0 with part := 0 })).wellFormed = false ∧
      (Instr.cueLoad 1 (.fields { partOf 0 0 with records := [{ rawRecord with level := 65536 }] })).wellFormed = false ∧
      (Instr.cueDelete 1 (.fields 16777216)).wellFormed = false ∧
      (Instr.cueRead 1 (.fields ⟨10, 256, 0⟩)).wellFormed = false ∧ (Instr.listEdited .cleared 513).wellFormed = false := by
  decide +kernel

/-- Playback requests beyond their bytes, a GOTO with the fire option, times past the last show time. -/
theorem test_wellFormed_playback :
    (Instr.go 1 (.fields ⟨some 16777216, none⟩)).wellFormed = false ∧ (Instr.goto 1 (.fields ⟨10, 1⟩)).wellFormed = false ∧
      (Instr.gotoFire 1 (.fields 16777216)).wellFormed = false ∧
      (Instr.scheduleAdd 1 (.fields ⟨4294967296, 10⟩)).wellFormed = false ∧
      (Instr.scheduleCancel 1 (.fields (some 16777216))).wellFormed = false ∧
      (Instr.playbackConfig 1 (.fields (some 16777216))).wellFormed = false ∧
      (Instr.sequencerClockStep 4294967296).wellFormed = false ∧
      (Instr.channelClockStep 0 4294967296).wellFormed = false ∧ (Instr.moveEngineClockStep 4294967296).wellFormed = false ∧
      (Instr.linkClockStep 0 4294967296).wellFormed = false ∧ (Instr.portClockStep 4294967296).wellFormed = false ∧
      (Instr.followExpiry 4294967296).wellFormed = false ∧
      (Instr.scheduleTriggerDue 4294967296).wellFormed = false ∧ (Instr.showTimeSet 0 4294967296).wellFormed = false := by
  decide +kernel

/-- Cue fires that no cue of the list could give, and move ids beyond two bytes (R71, R91 to R93). -/
theorem test_wellFormed_moves :
    (Instr.cueFire 0 [] none).wellFormed = false ∧
      (Instr.cueFire 10 [{ plainRecord with targets := .list [4, 3] }] none).wellFormed = false ∧
      (Instr.cueFire 10 [{ plainRecord with targets := .range 4 3 }] none).wellFormed = false ∧
      (Instr.cueFire 10 [{ plainRecord with time := 600001 }] none).wellFormed = false ∧
      (Instr.cueFire 10 (List.replicate 65 plainRecord) none).wellFormed = false ∧
      (Instr.cueFire 10 [] (some 600001)).wellFormed = false ∧ (Instr.moveStart 65536).wellFormed = false ∧
      (Instr.moveCompleted 65536).wellFormed = false := by
  decide +kernel

/-- Channel, trim and group requests beyond their bytes. -/
theorem test_wellFormed_channels :
    (Instr.chanSet 1 (.fields ⟨[3], 65536, 0, 0⟩)).wellFormed = false ∧
      (Instr.chanConfig 1 (.fields ⟨0, 1, some 32768, none, none, none, none⟩)).wellFormed = false ∧
      (Instr.chanRead 1 (.fields ⟨256, 1⟩)).wellFormed = false ∧ (Instr.muteSet 1 (.fields ⟨[256], 1⟩)).wellFormed = false ∧
      (Instr.chanRelease 1 (.fields [256])).wellFormed = false ∧
      (Instr.levelConfig 1 (.fields (some ⟨65536, 20, 30⟩))).wellFormed = false ∧
      (Instr.trimSet 1 (.fields ⟨0, [-32769]⟩)).wellFormed = false ∧
      (Instr.trimClear 1 (.fields (some 256))).wellFormed = false ∧ (Instr.trimRead 1 (.fields ⟨0, 256⟩)).wellFormed = false ∧
      (Instr.groupMembers 1 (.fields ⟨256, []⟩)).wellFormed = false ∧
      (Instr.groupSet 1 (.fields ⟨0, 0, 16777216, 0⟩)).wellFormed = false ∧
      (Instr.groupMute 1 (.fields ⟨[0], 256⟩)).wellFormed = false ∧ (Instr.groupRead 1 (.fields (.one 256))).wellFormed = false := by
  decide +kernel

/-- Surface, link, clock and fault requests beyond their bytes, and a slot map with an entry too few. -/
theorem test_wellFormed_devices :
    (Instr.bankMap 1 (.fields ⟨0, some (0, [some 256])⟩)).wellFormed = false ∧
      (Instr.bankSelect 1 (.fields 256)).wellFormed = false ∧ (Instr.stripCalibrate 1 (.fields [256])).wellFormed = false ∧
      (Instr.surfaceConfig 1 (.fields (.fineOffset 0 128))).wellFormed = false ∧
      (Instr.stripRead 1 (.fields ⟨0, 256⟩)).wellFormed = false ∧
      (Instr.slotMap 1 (.fields ⟨0, 0, 2, some [none]⟩)).wellFormed = false ∧
      (Instr.linkConfig 1 (.fields ⟨256, none⟩)).wellFormed = false ∧ (Instr.linkRead 1 (.fields 256)).wellFormed = false ∧
      (Instr.clockConfig 1 (.fields (some ⟨2, 256⟩))).wellFormed = false ∧
      (Instr.clockSet 1 (.fields 4294967296)).wellFormed = false ∧
      (Instr.faultConfig 1 (.fields ⟨0, some ⟨0, 256, 0⟩⟩)).wellFormed = false ∧
      (Instr.faultClear 1 (.fields 256)).wellFormed = false ∧ (Instr.faultTest 1 (.fields 256)).wellFormed = false := by
  decide +kernel

/-! ## Worked values of the manual -/

/-- The table of the gain law, spec/01_levels_and_the_gain_law.md 1.2. -/
theorem test_law_table :
    [32, 128, 300, 384, 600, 640, 700, 896, 900, 1000, 1023].map (fun p : Position => law p) =
      [-752, -500, -266, -200, -66, -50, -27, 50, 52, 91, 100] := by
  decide +kernel

/-- The mute ramp steps of R8's table. -/
theorem test_muteStep_table : [1, 7, 20, 100, 250, 500].map muteStep = [900, 129, 45, 9, 4, 2] := by decide +kernel

/-- G of channel 12 in the worked case 1.11 is +32 with CLIP clear. -/
theorem test_channelGain_worked : channelGain worked 12 = (.tenths 32, false) := by decide +kernel

/-- The clamp variant 1.11.2: a raw sum of +300 clamps, one of +100 does not. -/
theorem test_clamp_worked : limitGain 300 = (.tenths 100, true) ∧ limitGain 100 = (.tenths 100, false) := by decide +kernel

/-- T of 1.4: -500 with M -450 is OFF, with M -400 is the number -900. -/
theorem test_target_examples :
    targetGain (.tenths (-500)) (-450) = .off ∧ targetGain (.tenths (-500)) (-400) = .tenths (-900) := by
  decide +kernel

/-- The last slew of 1.11.1, step 28: from -878 by 30 to OFF in one step. -/
theorem test_slew_worked : slewOutput 30 (.tenths (-878)) .off = .off ∧ slewOutput 30 (.tenths 32) (.tenths (-68)) = .tenths 2 := by
  decide +kernel

/-- The glide of 2.15.1 at 2 250, 2 500 and 2 750. -/
theorem test_glide_worked : between 700 656 250 1000 = 689 ∧ between 700 672 500 1000 = 686 ∧ between 700 688 750 1000 = 691 := by
  decide +kernel

/-- The learned trim of 2.15.2: P_op 700 over P_auto 640 is +60. -/
theorem test_learned_worked : (Channel.learned { pAuto := 640, pOp := 700 }).val = 60 := by decide +kernel

/-- The curve table of R81: from 300 to 768 over 2 000 ms at 500, and the falling SCURVE at its middle. -/
theorem test_curve_table :
    [Curve.linear, .late, .early, .scurve].map
        (fun k => (Move.positionAt { id := 0, cue := none, target := .channel 0, phase := .waiting 0, duration := 2000, goal := 768, curve := k, mute := .none } 300 500).val) =
      [417, 329, 505, 373] ∧
      between 631 128 (Curve.weight .scurve 2048) 4096 = 379 := by
  decide +kernel

/-- The rate offset of 8.7: eight periods of 39 960 µs at 25 frames a second are +1 001 ppm. -/
theorem test_offset_worked : offsetOf 25 (List.replicate 8 39960) = 1001 := by decide +kernel

/-- The ends of the default calibration convert to 0 and 1023 (R141). -/
theorem test_convert_ends :
    (poweredStrip 0).convert 64 = 0 ∧ (poweredStrip 0).convert 4031 = 1023 ∧ (poweredStrip 0).convert 4095 = 1023 := by
  decide +kernel

/-- The hello message has the CRC the part sends at power-on (R161, R196). -/
theorem test_hello_bytes : messageBytes 1 [] = helloMessage := by decide +kernel

/-- The check value of the CRC of R185: the nine bytes 31h to 39h give 29B1h. -/
theorem test_crc_check : crc16 [0x31, 0x32, 0x33, 0x34, 0x35, 0x36, 0x37, 0x38, 0x39] = 0x29B1 := by decide +kernel

/-- The default maps of R160: slot 6 of link 1 takes channel 70, slot 32 of it and every slot of links 2 and 3 none. -/
theorem test_default_maps :
    (defaultMap 0)[(63 : Slot)] = some 63 ∧ (defaultMap 1)[(6 : Slot)] = some 70 ∧ (defaultMap 1)[(32 : Slot)] = none ∧
      (defaultMap 2)[(0 : Slot)] = none := by
  decide +kernel

/-- The default bank map of R148: bank 1 has channel 27 at strip 3. -/
theorem test_default_banks : defaultEntry 1 3 = some 27 := by decide +kernel

/-- 80 ms of silence and 2 000 ms of holdover at +1001 ppm make 2 080 x 1.001001 = 2 082.08 steps, counted with a lock that came
in the running interval (R131, R132, R134). -/
theorem test_rate_offset_is_the_steps_of_the_interval_that_follows :
    let k : Clock := { source := .external, lock := .locked 0, rho := 1001, pace := 1001, mark := some 0 }
    (match exec .silenceLimit (quiet.setClock k) with
      | .next t => (match exec .holdoverExpiry t with | .next u => u.clock.due | _ => 0)
      | _ => 0) = 2082 := by decide +kernel

/-- The same lock at show time 100 000: the changes to HOLDOVER and LOST report the show times that 80.08 and 2 082.08 steps have
reached (R130, R131, R137). -/
theorem test_lock_reports_count_the_steps_before_them :
    let k : Clock := { source := .external, lock := .locked 0, rho := 1001, pace := 1001, mark := some 0, showTime := 100000 }
    (match exec .silenceLimit (watching.setClock k) with
      | .next t => (match exec .holdoverExpiry t with | .next u => u.port.reports | _ => [])
      | _ => []) = [.clockState 2 3 .external 25 100080 1001, .clockState 3 4 .external 25 102082 0] := by decide +kernel

end Sys2Proof.Tests
end

section
/-! The gain law interpolates on closed segments, so that neighbouring segments agree at their common breakpoint. Monotony then
follows one position at a time, and the range of the raw sum follows from monotony. -/

namespace Sys2Proof.Machine

/-! ## Rounding -/

/-- The defining bounds of the nearest integer, a half up: `r - 1/2 ≤ num / den < r + 1/2`. -/
theorem roundHalfUp_bounds (num : Int) {den : Int} (hden : 0 < den) :
    2 * den * roundHalfUp num den ≤ 2 * num + den ∧ 2 * num + den < 2 * den * (roundHalfUp num den + 1) := by
  have hpos : 0 < 2 * den := by omega
  exact ⟨Int.mul_ediv_self_le hpos.ne', (Int.lt_mul_ediv_self_add hpos).trans_eq (mul_add_one _ _).symm⟩

theorem roundHalfUp_mono {a b den : Int} (hden : 0 < den) (h : a ≤ b) : roundHalfUp a den ≤ roundHalfUp b den :=
  Int.ediv_le_ediv (by omega) (by omega)

/-! ## The gain law (R2) -/

/-- The segments between the six breakpoints of R2: lower breakpoint and gain, upper breakpoint and gain. -/
def lawSegments : List (Int × Int × Int × Int) :=
  [(1, -900, 64, -600), (64, -600, 256, -300), (256, -300, 512, -100), (512, -100, 768, 0), (768, 0, 1023, 100)]

section
variable {pa ga pb gb : Int}

theorem lawSegments_rise (hseg : (pa, ga, pb, gb) ∈ lawSegments) : pa < pb ∧ ga < gb := by
  have rise : ∀ e ∈ lawSegments, e.1 < e.2.2.1 ∧ e.2.1 < e.2.2.2 := by decide
  exact rise _ hseg

theorem lawSegment_of_lt (hseg : (pa, ga, pb, gb) ∈ lawSegments) {n : Nat} (hlo : pa ≤ n) (hhi : (n : Int) < pb) :
    lawSegment n = (pa, ga, pb, gb) := by
  unfold lawSegment
  simp only [lawSegments, List.mem_cons, Prod.mk.injEq, List.not_mem_nil, or_false] at hseg
  obtain ⟨rfl, rfl, rfl, rfl⟩ | ⟨rfl, rfl, rfl, rfl⟩ | ⟨rfl, rfl, rfl, rfl⟩ | ⟨rfl, rfl, rfl, rfl⟩ | ⟨rfl, rfl, rfl, rfl⟩ :=
    hseg
  · rw [if_pos (by omega)]
  · rw [if_neg (by omega), if_pos (by omega)]
  · rw [if_neg (by omega), if_neg (by omega), if_pos (by omega)]
  · rw [if_neg (by omega), if_neg (by omega), if_neg (by omega), if_pos (by omega)]
  · rw [if_neg (by omega), if_neg (by omega), if_neg (by omega), if_neg (by omega)]

/-- At the upper breakpoint of a segment the law is the segment's upper gain, though R2 takes it from the next segment. -/
theorem law_upper_breakpoint (hseg : (pa, ga, pb, gb) ∈ lawSegments) {p : Position} (hp : (p.val : Int) = pb) :
    law p = gb := by
  have upper : ∀ e ∈ lawSegments, law (Fin.ofNat 1024 e.2.2.1.toNat) = e.2.2.2 := by decide
  have hpos : Fin.ofNat 1024 pb.toNat = p := by
    subst hp
    exact Fin.ofNat_val_eq_self p
  exact hpos ▸ upper _ hseg

/-- On a closed segment, both breakpoints included, the law is that segment's interpolation. -/
theorem law_on_segment (hseg : (pa, ga, pb, gb) ∈ lawSegments) {p : Position} (hlo : pa ≤ p.val) (hhi : p.val ≤ pb) :
    law p = ga + roundHalfUp ((gb - ga) * (p.val - pa)) (pb - pa) := by
  obtain hlt | heq := hhi.lt_or_eq
  · simp only [law, lawSegment_of_lt hseg hlo hlt]
  · have exact_at_end : ∀ e ∈ lawSegments,
        e.2.1 + roundHalfUp ((e.2.2.2 - e.2.1) * (e.2.2.1 - e.1)) (e.2.2.1 - e.1) = e.2.2.2 := by decide
    rw [law_upper_breakpoint hseg heq, heq]
    exact (exact_at_end _ hseg).symm

end

/-- The closed segments cover the law: two neighbouring positions always share one. -/
theorem exists_lawSegment {n : Nat} (h1 : 1 ≤ n) (h2 : n < 1023) :
    ∃ pa ga pb gb : Int, (pa, ga, pb, gb) ∈ lawSegments ∧ pa ≤ n ∧ (n : Int) + 1 ≤ pb := by
  obtain h | h | h | h | h : n < 64 ∨ (64 ≤ n ∧ n < 256) ∨ (256 ≤ n ∧ n < 512) ∨ (512 ≤ n ∧ n < 768) ∨ 768 ≤ n := by omega
  · exact ⟨1, -900, 64, -600, by decide, by omega, by omega⟩
  · exact ⟨64, -600, 256, -300, by decide, by omega, by omega⟩
  · exact ⟨256, -300, 512, -100, by decide, by omega, by omega⟩
  · exact ⟨512, -100, 768, 0, by decide, by omega, by omega⟩
  · exact ⟨768, 0, 1023, 100, by decide, by omega, by omega⟩

theorem law_le_law_succ {n : Nat} (h1 : 1 ≤ n) (hn : n + 1 < 1024) :
    law ⟨n, Nat.lt_of_succ_lt hn⟩ ≤ law ⟨n + 1, hn⟩ := by
  obtain ⟨pa, ga, pb, gb, hseg, hlo, hhi⟩ := exists_lawSegment h1 (n := n) (by omega)
  obtain ⟨hp, hg⟩ := lawSegments_rise hseg
  rw [law_on_segment hseg (p := ⟨n, _⟩) hlo (by simp only; omega),
    law_on_segment hseg (p := ⟨n + 1, hn⟩) (by push_cast; omega) (by push_cast; omega)]
  gcongr
  refine roundHalfUp_mono (by omega) (Int.mul_le_mul_of_nonneg_left ?_ (by omega))
  push_cast; omega

theorem law_mono {p q : Position} (h1 : 1 ≤ p.val) (hpq : p ≤ q) : law p ≤ law q := by
  obtain ⟨m, hm⟩ := q
  have hle : p.val ≤ m := hpq
  clear hpq
  induction m, hle using Nat.le_induction with
  | base => exact le_rfl
  | succ n hn ih => exact (ih (by omega)).trans (law_le_law_succ (by omega) hm)

/-- Between its end breakpoints the law keeps to their gains. -/
theorem law_bounds {p : Position} (hp : p ≠ 0) : -900 ≤ law p ∧ law p ≤ 100 := by
  have h1 : 1 ≤ p.val := Nat.pos_of_ne_zero (Fin.val_ne_of_ne hp)
  have lowest : law 1 = -900 := by decide
  have highest : law 1023 = 100 := by decide
  exact ⟨lowest ▸ law_mono le_rfl (Fin.mk_le_of_le_val h1), highest ▸ law_mono h1 (Fin.le_last p)⟩

/-! ## Channel gain (R3 to R5) -/

@[simp] theorem mem_groupsOf {s : State} {c : ChanNo} {g : GroupNo} : g ∈ groupsOf s c ↔ c ∈ (s.group g).members := by
  simp [groupsOf]

theorem groupsOf_nodup (s : State) (c : ChanNo) : (groupsOf s c).Nodup := (List.nodup_finRange 16).filter _

theorem closedByMaster_iff {s : State} {c : ChanNo} :
    closedByMaster s c = true ↔ ∃ g, c ∈ (s.group g).members ∧ (s.group g).master = 0 := by
  simp [closedByMaster]

theorem limitGain_floor {x : Int} (h : x < -900) : limitGain x = (.off, false) := if_pos h

theorem limitGain_within {x : Int} (hlo : -900 ≤ x) (hhi : x ≤ 100) : limitGain x = (.tenths x, false) := by
  rw [limitGain, if_neg (by omega), if_pos hhi]

theorem limitGain_clip {x : Int} (h : 100 < x) : limitGain x = (.tenths 100, true) := by
  rw [limitGain, if_neg (by omega), if_neg (by omega)]

section
variable {s : State} {c : ChanNo}

theorem channelGain_of_pEff_zero (h : (s.channel c).pEff = 0) : channelGain s c = (.off, false) := if_pos h

theorem channelGain_of_master_zero (hP : (s.channel c).pEff ≠ 0)
    (hM : ∃ g, c ∈ (s.group g).members ∧ (s.group g).master = 0) : channelGain s c = (.off, false) := by
  rw [channelGain, if_neg hP, if_pos (closedByMaster_iff.2 hM)]

theorem channelGain_of_open (hP : (s.channel c).pEff ≠ 0) (hM : ∀ g, c ∈ (s.group g).members → (s.group g).master ≠ 0) :
    channelGain s c = limitGain (rawSum s c) := by
  have hopen : ¬ closedByMaster s c = true := by
    rw [closedByMaster_iff]
    exact fun ⟨g, hmem, hzero⟩ => hM g hmem hzero
  rw [channelGain, if_neg hP, if_neg hopen]

/-- Each group with its master off 0 contributes between -900 and +100. -/
theorem groupContribution_bounds (hM : ∀ g, c ∈ (s.group g).members → (s.group g).master ≠ 0) :
    -900 * ((groupsOf s c).length : Int) ≤ groupContribution s c ∧
      groupContribution s c ≤ 100 * ((groupsOf s c).length : Int) := by
  have each : ∀ x ∈ (groupsOf s c).map fun g => law (s.group g).master, -900 ≤ x ∧ x ≤ 100 := by
    simp only [List.forall_mem_map, mem_groupsOf]
    exact fun g hg => law_bounds (hM g hg)
  have hlo := List.card_nsmul_le_sum _ (-900 : Int) fun x hx => (each x hx).1
  have hhi := List.sum_le_card_nsmul _ (100 : Int) fun x hx => (each x hx).2
  simp only [List.length_map, nsmul_eq_mul] at hlo hhi
  unfold groupContribution
  omega

/-- The range of R4: at most five law values and the static trim. -/
theorem rawSum_bounds (hP : (s.channel c).pEff ≠ 0) (hM : ∀ g, c ∈ (s.group g).members → (s.group g).master ≠ 0)
    (hgroups : (groupsOf s c).length ≤ 4) (hlo : -200 ≤ (s.channel c).staticTrim) (hhi : (s.channel c).staticTrim ≤ 100) :
    -4700 ≤ rawSum s c ∧ rawSum s c ≤ 600 := by
  have position := law_bounds hP
  have groups := groupContribution_bounds hM
  unfold rawSum
  omega

end

/-! ## The statement -/

/-- Settles O1: the segment clause is `law_on_segment` with the bounds of the rounding, and the three cases of G go through
`limitGain` at the raw sum. -/
theorem channelGainFollowsTheLaw : Obligations.ChannelGainFollowsTheLaw := by
  unfold Obligations.ChannelGainFollowsTheLaw
  refine ⟨fun pa ga pb gb hseg p hlo hhi => ?_, by decide, fun p q => law_mono, fun s c => ?_⟩
  · obtain ⟨hrise, -⟩ := lawSegments_rise hseg
    exact ⟨_, law_on_segment hseg hlo (by omega), roundHalfUp_bounds _ (by omega)⟩
  · refine ⟨channelGain_of_pEff_zero, channelGain_of_master_zero, fun hP hM => ?_, groupsOf_nodup s c, fun _ => mem_groupsOf⟩
    rw [channelGain_of_open hP hM]
    exact ⟨limitGain_floor, limitGain_within, limitGain_clip, rawSum_bounds hP hM⟩

end Sys2Proof.Machine
end

section
/-! A move's position is one rounded quotient, the same at elapsed 0, at the duration and between, so that the model's two end
cases are values of the curve. The rounding is then bounded once for rising and falling moves. -/

namespace Sys2Proof.Machine

/-! ## Curves (R80) -/

theorem curveTime_le {e d : Nat} (h : e ≤ d) : curveTime e d ≤ 4096 :=
  Nat.div_le_of_le_mul (Nat.mul_le_mul_right 4096 h)

@[simp] theorem curveTime_zero (d : Nat) : curveTime 0 d = 0 := by
  rw [curveTime, Nat.zero_mul, Nat.zero_div]

theorem curveTime_self {d : Nat} (hd : 0 < d) : curveTime d d = 4096 := Nat.mul_div_cancel_left 4096 hd

@[simp] theorem Curve.weight_zero (k : Curve) : Curve.weight k 0 = 0 := by cases k <;> rfl

@[simp] theorem Curve.weight_full (k : Curve) : Curve.weight k 4096 = 4096 := by cases k <;> rfl

/-- The numerator of SCURVE rises up to 4096: with `v = u + k` and `4096 = v + x` both sides are polynomials in `u`, `k` and
`x`, and their difference has no negative term. -/
theorem Curve.scurve_numerator_mono {u v : Nat} (huv : u ≤ v) (hv : v ≤ 4096) :
    u * u * (12288 - 2 * u) ≤ v * v * (12288 - 2 * v) := by
  obtain ⟨k, rfl⟩ := Nat.exists_eq_add_of_le huv
  obtain ⟨x, hx⟩ := Nat.exists_eq_add_of_le hv
  have hu : 12288 - 2 * u = u + 3 * k + 3 * x := by omega
  have hend : 12288 - 2 * (u + k) = u + k + 3 * x := by omega
  rw [hu, hend]
  calc u * u * (u + 3 * k + 3 * x)
      ≤ u * u * (u + 3 * k + 3 * x) + (3 * u * k * k + k * k * k + 3 * x * (2 * u * k + k * k)) := Nat.le_add_right ..
    _ = (u + k) * (u + k) * (u + k + 3 * x) := by ring

theorem Curve.weight_mono (k : Curve) {u v : Nat} (huv : u ≤ v) (hv : v ≤ 4096) : Curve.weight k u ≤ Curve.weight k v := by
  cases k with
  | linear => exact huv
  | late => exact Nat.div_le_div_right (Nat.mul_le_mul huv huv)
  | early =>
    have hrest : 4096 - v ≤ 4096 - u := Nat.sub_le_sub_left huv 4096
    exact Nat.sub_le_sub_left (Nat.div_le_div_right (Nat.mul_le_mul hrest hrest)) 4096
  | scurve => exact Nat.div_le_div_right (Curve.scurve_numerator_mono huv hv)

theorem Curve.weight_le (k : Curve) {u : Nat} (hu : u ≤ 4096) : Curve.weight k u ≤ 4096 :=
  (Curve.weight_mono k hu le_rfl).trans_eq (Curve.weight_full k)

/-! ## The rounded part of a way -/

/-- The part `num / den` of a way of `d` steps, rounded to the nearest step with a half up: the way `between` goes from its
first position (`between_of_le`, `between_of_ge`). -/
def partOfWay (d num den : Nat) : Nat := (2 * d * num + den) / (2 * den)

section
variable {num den : Nat}

theorem partOfWay_bounds (d num : Nat) (hden : 0 < den) :
    2 * den * partOfWay d num den ≤ 2 * d * num + den ∧ 2 * d * num + den < 2 * den * (partOfWay d num den + 1) :=
  ⟨Nat.mul_div_le _ _, Nat.lt_mul_div_succ _ (by omega)⟩

theorem partOfWay_none (d : Nat) (hden : 0 < den) : partOfWay d 0 den = 0 :=
  Nat.div_eq_of_lt (by omega)

theorem partOfWay_whole (d : Nat) (hden : 0 < den) : partOfWay d den den = d :=
  Nat.div_eq_of_lt_le (by linarith) (by linarith)

theorem partOfWay_le (d : Nat) (hden : 0 < den) (h : num ≤ den) : partOfWay d num den ≤ d :=
  calc partOfWay d num den ≤ partOfWay d den den :=
        Nat.div_le_div_right (Nat.add_le_add_right (Nat.mul_le_mul_left _ h) den)
    _ = d := partOfWay_whole d hden

variable {a b : Position}

theorem between_of_le (hab : a ≤ b) (hden : 0 < den) (h : num ≤ den) :
    (between a b num den).val = a.val + partOfWay (b.val - a.val) num den := by
  have hle : a.val ≤ b.val := hab
  have hpart := partOfWay_le (b.val - a.val) hden h
  have hlt : a.val + partOfWay (b.val - a.val) num den < 1024 := by omega
  unfold partOfWay at hlt ⊢
  simp only [between, if_pos hab, dif_pos hlt]

theorem between_of_ge (hba : b ≤ a) (hden : 0 < den) (h : num ≤ den) :
    (between a b num den).val = a.val - partOfWay (a.val - b.val) num den := by
  obtain rfl | hlt := hba.eq_or_lt
  · have hstay := partOfWay_le 0 hden h
    rw [between_of_le le_rfl hden h, Nat.sub_self]
    omega
  · have hpos : a.val - partOfWay (a.val - b.val) num den < 1024 := by omega
    unfold partOfWay at hpos ⊢
    simp only [between, if_neg hlt.not_ge, dif_pos hpos]

theorem between_none (a b : Position) (hden : 0 < den) : between a b 0 den = a := by
  apply Fin.ext
  obtain hab | hba := le_total a b
  · rw [between_of_le hab hden (Nat.zero_le _), partOfWay_none _ hden, Nat.add_zero]
  · rw [between_of_ge hba hden (Nat.zero_le _), partOfWay_none _ hden, Nat.sub_zero]

theorem between_whole (a b : Position) (hden : 0 < den) : between a b den den = b := by
  apply Fin.ext
  obtain hab | hba := le_total a b
  · rw [between_of_le hab hden le_rfl, partOfWay_whole _ hden, Nat.add_sub_cancel' hab]
  · rw [between_of_ge hba hden le_rfl, partOfWay_whole _ hden, Nat.sub_sub_self hba]

end

/-! ## The position of a running move (R81) -/

/-- The start at elapsed 0 and the goal at the duration are the curve's own values there. -/
theorem Move.positionAt_eq_between (m : Move) (start : Position) {e : Nat} (hd : 0 < m.duration) (he : e ≤ m.duration) :
    m.positionAt start e = between start m.goal (Curve.weight m.curve (curveTime e m.duration)) 4096 := by
  obtain rfl | hpos := e.eq_zero_or_pos
  · rw [curveTime_zero, Curve.weight_zero, between_none _ _ (by decide)]
    exact if_pos rfl
  obtain rfl | hlt := he.eq_or_lt
  · rw [curveTime_self hd, Curve.weight_full, between_whole _ _ (by decide)]
    rw [positionAt, if_neg hpos.ne', if_pos le_rfl]
  · rw [positionAt, if_neg hpos.ne', if_neg hlt.not_ge]

/-! ## The statement -/

/-- Settles O9: the position is `between` at every elapsed time, whose way from the start is `partOfWay`. -/
theorem movePositionsFollowTheCurve : Obligations.MovePositionsFollowTheCurve := by
  unfold Obligations.MovePositionsFollowTheCurve
  intro w
  have hw : ∀ k u, w k u = Curve.weight k u := by
    intro k u
    cases k <;> simp only [w, Curve.weight, sq]
  clear_value w
  simp only [hw]
  refine ⟨fun k => ⟨Curve.weight_zero k, Curve.weight_full k, fun _ _ => Curve.weight_mono k⟩, fun m start e hd he => ?_⟩
  have hu : curveTime e m.duration ≤ 4096 := curveTime_le he
  have hweight := Curve.weight_le m.curve hu
  rw [m.positionAt_eq_between start hd he]
  refine ⟨hu, hweight, fun hrise => ?_, fun hfall => ?_, fun hend => ?_⟩
  · have hway := partOfWay_le (m.goal.val - start.val) (by decide) hweight
    have hle : start.val ≤ m.goal.val := hrise
    rw [between_of_le hrise (by decide) hweight, Nat.add_sub_cancel_left]
    exact ⟨Nat.le_add_right _ _, by omega, partOfWay_bounds _ _ (by decide)⟩
  · have hway := partOfWay_le (start.val - m.goal.val) (by decide) hweight
    have hle : m.goal.val ≤ start.val := hfall
    rw [between_of_ge hfall (by decide) hweight, Nat.sub_sub_self (by omega)]
    exact ⟨by omega, Nat.sub_le _ _, partOfWay_bounds _ _ (by decide)⟩
  · have htime : curveTime e m.duration = 4096 := by rw [hend, curveTime_self hd]
    have hfull : Curve.weight m.curve (curveTime e m.duration) = 4096 := by rw [htime, Curve.weight_full]
    rw [hfull]
    exact ⟨htime, hfull, between_whole _ _ (by decide)⟩

end Sys2Proof.Machine
end
